-- ==== Sys2Proof/Word.lean ====
section
/-! DEFINITION. The words of WS5-FDC: a received byte, a register word, a transaction descriptor, and the code that
one instruction has (R12, R13, R70). -/

namespace Sys2Proof

/-- A received byte, 8 bits (R12). -/
abbrev Byte := BitVec 8

/-- A register of the window and a bus payload, 32 bits (R12, R51). -/
abbrev Word := BitVec 32

/-- The 16-bit descriptor `t[15:0]` of a transaction (R70). -/
abbrev Descr := BitVec 16

/-- What is decoded. A transaction is a descriptor with, for a WRITE, a 32-bit payload (R70, R74). A header is the
byte `d0` that the classifier's table is matched against (R68, R101). -/
inductive Code where
  | xact (t : Descr) (payload : Option Word)
  | header (h : Byte)
  deriving DecidableEq, Repr

end Sys2Proof
end

