-- ==== Sys2Proof/Machine/ClsTable.lean ====
section
/-! DEFINITION. The header classification table as data and the search in it (R102, R110, R111). It reads no state, so
that the checks on instructions can use it too. -/

namespace Sys2Proof.Machine

/-- One row of the classification table (R102). -/
structure ClsRow where
  mask : Byte
  expected : Byte
  kind : BitVec 3
  deriving DecidableEq, Repr

/-- KIND codes (R110). Code 6 is reserved and never produced (I7). -/
def kindNone : BitVec 3 := 0
def kindDeviceId : BitVec 3 := 1
def kindOutOfProx : BitVec 3 := 2
def kindStylus : BitVec 3 := 3
def kindCursor1 : BitVec 3 := 4
def kindCursor2 : BitVec 3 := 5
def kindUnknown : BitVec 3 := 7

/-- The seven rows, in the order in which they are tried (R102). -/
def clsTable : List ClsRow :=
  [ { mask := 0xFC, expected := 0xC0, kind := kindDeviceId },
    { mask := 0xFE, expected := 0x80, kind := kindOutOfProx },
    { mask := 0xB8, expected := 0xA0, kind := kindStylus },
    { mask := 0xBE, expected := 0xB4, kind := kindStylus },
    { mask := 0xBE, expected := 0xA8, kind := kindCursor1 },
    { mask := 0xBE, expected := 0xB0, kind := kindCursor1 },
    { mask := 0xBE, expected := 0xAA, kind := kindCursor2 } ]

/-- A row's test: the bits of the header under the mask are the expected ones (R111). -/
def ClsRow.holds (row : ClsRow) (h : Byte) : Bool := (h &&& row.mask) == row.expected

/-- The row and kind of the first row from number `r` on that matches, or (7, UNKNOWN) where none does (R111). -/
def classifyFrom (r : Nat) : List ClsRow → Byte → BitVec 3 × BitVec 3
  | [], _ => (7, kindUnknown)
  | row :: rows, h => if row.holds h then (BitVec.ofNat 3 r, row.kind) else classifyFrom (r + 1) rows h

/-- `classify(h)`: row and kind of a header byte, total on the 256 byte values (R79, R111). -/
def classify (h : Byte) : BitVec 3 × BitVec 3 := classifyFrom 0 clsTable h

/-- Row number r of the table, r = 0..6 (R102). Nothing asks for another. -/
def clsRow (r : Nat) : ClsRow := clsTable.getD r { mask := 0, expected := 0, kind := kindNone }

end Sys2Proof.Machine
end

