-- ==== Sys2Proof/Config.lean ====
section
/-! DEFINITION. The parameters that an instance fixes (R2, R9, R10, R11, R45) and the OPEN base of the register window
(R47, D17). -/

namespace Sys2Proof

/-- The three parameters of an instance, each held as its distance from its least legal value, so that an illegal
instance cannot be built (R9, R10, R11; I2, I3, I4 refuse one). Read them through `bufCap`, `proxBit` and `secMask`. -/
structure Params where
  /-- BUF_CAP - 9, for BUF_CAP in 9..64 (R9). -/
  capOverNine : Fin 56
  /-- PROX_BIT - 1, for PROX_BIT in 1..6 (R10). -/
  proxOverOne : Fin 6
  /-- SEC_MASK[6:1]; bits 7 and 0 are 0 (R11). -/
  secMiddle : BitVec 6
  deriving DecidableEq, Repr

/-- `BUF_CAP`, the capacity of the frame buffer in bytes, 9..64 (R9). -/
def Params.bufCap (p : Params) : Nat := 9 + p.capOverNine.val

/-- `PROX_BIT`, the header bit of the proximity flag, 1..6 (R10). -/
def Params.proxBit (p : Params) : Nat := 1 + p.proxOverOne.val

/-- `SEC_MASK`, the header bits of the secondary channel; bits 7 and 0 are 0 (R11). -/
def Params.secMask (p : Params) : Byte := p.secMiddle.setWidth 8 <<< 1

/-- The reference instance: BUF_CAP = 32, PROX_BIT = 6, SEC_MASK = 0x00 (R9, R10, R11). -/
def Params.reference : Params where
  capOverNine := 23
  proxOverOne := 5
  secMiddle := 0

/-- The instance with these three values, or none where a value is illegal, which I2, I3 and I4 refuse. -/
def Params.ofValues (bufCap proxBit : Nat) (secMask : Byte) : Option Params :=
  if h : (9 ≤ bufCap ∧ bufCap ≤ 64) ∧ (1 ≤ proxBit ∧ proxBit ≤ 6) ∧ secMask.getLsbD 7 = false ∧ secMask.getLsbD 0 = false then
    some { capOverNine := ⟨bufCap - 9, by omega⟩, proxOverOne := ⟨proxBit - 1, by omega⟩,
           secMiddle := secMask.extractLsb' 1 6 }
  else
    none

/-- `WS5_BASE`, the window's base in the host's address map: the platform's choice, OPEN in the spec (R47, R180, I5).
No operation of the block reads it (log 2). -/
opaque Config.ws5Base : Nat

/-- The host address of a byte offset of the register window (R47, R180). -/
def Config.hostAddress (offset : BitVec 9) : Nat := Config.ws5Base + offset.toNat

end Sys2Proof
end

