-- ==== Sys2Proof/Syntax.lean ====
section
/-! DEFINITION. The instructions: one constructor for each row of spec/opcode_table.json. The block has no instruction
set of its own (R1, R18): a row is a transaction of the ports (R70, R72) or a row of the header's classification table
(R68, R102). -/

namespace Sys2Proof

/-- One transaction or one header row. A WRITE carries its 32-bit payload (R70). A header row carries the header bits
that the row's mask leaves free, highest first, `ch` being bit 0 (R64, R112). -/
inductive Instr where
  /-- PUSH (R85). -/
  | push (b : Byte)
  /-- RD PARAM (R137). -/
  | rdParam
  /-- RD STATUS (R138). -/
  | rdStatus
  /-- RD CTRL (R139). -/
  | rdCtrl
  /-- RD EVENTS (R140). -/
  | rdEvents
  /-- RD IRQ_EN (R144). -/
  | rdIrqEn
  /-- RD IRQ_STATUS (R145). -/
  | rdIrqStatus
  /-- RD PKT (R146). -/
  | rdPkt
  /-- RD POS_X (R147). -/
  | rdPosX
  /-- RD POS_Y (R148). -/
  | rdPosY
  /-- RD PRESSURE (R149). -/
  | rdPressure
  /-- RD TILT_X (R150). -/
  | rdTiltX
  /-- RD TILT_Y (R151). -/
  | rdTiltY
  /-- RD TILT_XB (R152). -/
  | rdTiltXb
  /-- RD TILT_YB (R153). -/
  | rdTiltYb
  /-- RD THROTTLE (R154). -/
  | rdThrottle
  /-- RD REL_WHEEL (R155). -/
  | rdRelWheel
  /-- RD ROT_RAW (R156). -/
  | rdRotRaw
  /-- RD ROT_ANGLE (R157). -/
  | rdRotAngle
  /-- RD TOOL_ID (R158). -/
  | rdToolId
  /-- RD SERIAL (R159). -/
  | rdSerial
  /-- RD CLS_ROW0 (R160). -/
  | rdClsRow0
  /-- RD CLS_ROW1 (R160). -/
  | rdClsRow1
  /-- RD CLS_ROW2 (R160). -/
  | rdClsRow2
  /-- RD CLS_ROW3 (R160). -/
  | rdClsRow3
  /-- RD CLS_ROW4 (R160). -/
  | rdClsRow4
  /-- RD CLS_ROW5 (R160). -/
  | rdClsRow5
  /-- RD CLS_ROW6 (R160). -/
  | rdClsRow6
  /-- RD FRAME[i] (R161). -/
  | rdFrame (k : BitVec 6)
  /-- RD RSVD@0x018 (R162). -/
  | rdRsvd018
  /-- RD RSVD@0x01C (R162). -/
  | rdRsvd01C
  /-- RD RSVD@0x058 (R162). -/
  | rdRsvd058
  /-- RD RSVD@0x05C (R162). -/
  | rdRsvd05C
  /-- RD RSVD@0x060 (R162). -/
  | rdRsvd060
  /-- RD RSVD@0x064 (R162). -/
  | rdRsvd064
  /-- RD RSVD@0x068 (R162). -/
  | rdRsvd068
  /-- RD RSVD@0x06C (R162). -/
  | rdRsvd06C
  /-- RD RSVD@0x070 (R162). -/
  | rdRsvd070
  /-- RD RSVD@0x074 (R162). -/
  | rdRsvd074
  /-- RD RSVD@0x078 (R162). -/
  | rdRsvd078
  /-- RD RSVD@0x07C (R162). -/
  | rdRsvd07C
  /-- RD RSVD@0x09C (R162). -/
  | rdRsvd09C
  /-- RD RSVD@0x0A0 (R162). -/
  | rdRsvd0A0
  /-- RD RSVD@0x0A4 (R162). -/
  | rdRsvd0A4
  /-- RD RSVD@0x0A8 (R162). -/
  | rdRsvd0A8
  /-- RD RSVD@0x0AC (R162). -/
  | rdRsvd0AC
  /-- RD RSVD@0x0B0 (R162). -/
  | rdRsvd0B0
  /-- RD RSVD@0x0B4 (R162). -/
  | rdRsvd0B4
  /-- RD RSVD@0x0B8 (R162). -/
  | rdRsvd0B8
  /-- RD RSVD@0x0BC (R162). -/
  | rdRsvd0BC
  /-- RD RSVD@0x0C0 (R162). -/
  | rdRsvd0C0
  /-- RD RSVD@0x0C4 (R162). -/
  | rdRsvd0C4
  /-- RD RSVD@0x0C8 (R162). -/
  | rdRsvd0C8
  /-- RD RSVD@0x0CC (R162). -/
  | rdRsvd0CC
  /-- RD RSVD@0x0D0 (R162). -/
  | rdRsvd0D0
  /-- RD RSVD@0x0D4 (R162). -/
  | rdRsvd0D4
  /-- RD RSVD@0x0D8 (R162). -/
  | rdRsvd0D8
  /-- RD RSVD@0x0DC (R162). -/
  | rdRsvd0DC
  /-- RD RSVD@0x0E0 (R162). -/
  | rdRsvd0E0
  /-- RD RSVD@0x0E4 (R162). -/
  | rdRsvd0E4
  /-- RD RSVD@0x0E8 (R162). -/
  | rdRsvd0E8
  /-- RD RSVD@0x0EC (R162). -/
  | rdRsvd0EC
  /-- RD RSVD@0x0F0 (R162). -/
  | rdRsvd0F0
  /-- RD RSVD@0x0F4 (R162). -/
  | rdRsvd0F4
  /-- RD RSVD@0x0F8 (R162). -/
  | rdRsvd0F8
  /-- RD RSVD@0x0FC (R162). -/
  | rdRsvd0FC
  /-- WR CTRL (R141). -/
  | wrCtrl (v : Word)
  /-- WR EVENTS (R142). -/
  | wrEvents (v : Word)
  /-- WR IRQ_EN (R143). -/
  | wrIrqEn (v : Word)
  /-- WR PARAM (R163). -/
  | wrParam (v : Word)
  /-- WR STATUS (R163). -/
  | wrStatus (v : Word)
  /-- WR IRQ_STATUS (R163). -/
  | wrIrqStatus (v : Word)
  /-- WR RSVD@0x018 (R163). -/
  | wrRsvd018 (v : Word)
  /-- WR RSVD@0x01C (R163). -/
  | wrRsvd01C (v : Word)
  /-- WR PKT (R163). -/
  | wrPkt (v : Word)
  /-- WR POS_X (R163). -/
  | wrPosX (v : Word)
  /-- WR POS_Y (R163). -/
  | wrPosY (v : Word)
  /-- WR PRESSURE (R163). -/
  | wrPressure (v : Word)
  /-- WR TILT_X (R163). -/
  | wrTiltX (v : Word)
  /-- WR TILT_Y (R163). -/
  | wrTiltY (v : Word)
  /-- WR TILT_XB (R163). -/
  | wrTiltXb (v : Word)
  /-- WR TILT_YB (R163). -/
  | wrTiltYb (v : Word)
  /-- WR THROTTLE (R163). -/
  | wrThrottle (v : Word)
  /-- WR REL_WHEEL (R163). -/
  | wrRelWheel (v : Word)
  /-- WR ROT_RAW (R163). -/
  | wrRotRaw (v : Word)
  /-- WR ROT_ANGLE (R163). -/
  | wrRotAngle (v : Word)
  /-- WR TOOL_ID (R163). -/
  | wrToolId (v : Word)
  /-- WR SERIAL (R163). -/
  | wrSerial (v : Word)
  /-- WR RSVD@0x058 (R163). -/
  | wrRsvd058 (v : Word)
  /-- WR RSVD@0x05C (R163). -/
  | wrRsvd05C (v : Word)
  /-- WR RSVD@0x060 (R163). -/
  | wrRsvd060 (v : Word)
  /-- WR RSVD@0x064 (R163). -/
  | wrRsvd064 (v : Word)
  /-- WR RSVD@0x068 (R163). -/
  | wrRsvd068 (v : Word)
  /-- WR RSVD@0x06C (R163). -/
  | wrRsvd06C (v : Word)
  /-- WR RSVD@0x070 (R163). -/
  | wrRsvd070 (v : Word)
  /-- WR RSVD@0x074 (R163). -/
  | wrRsvd074 (v : Word)
  /-- WR RSVD@0x078 (R163). -/
  | wrRsvd078 (v : Word)
  /-- WR RSVD@0x07C (R163). -/
  | wrRsvd07C (v : Word)
  /-- WR CLS_ROW0 (R163). -/
  | wrClsRow0 (v : Word)
  /-- WR CLS_ROW1 (R163). -/
  | wrClsRow1 (v : Word)
  /-- WR CLS_ROW2 (R163). -/
  | wrClsRow2 (v : Word)
  /-- WR CLS_ROW3 (R163). -/
  | wrClsRow3 (v : Word)
  /-- WR CLS_ROW4 (R163). -/
  | wrClsRow4 (v : Word)
  /-- WR CLS_ROW5 (R163). -/
  | wrClsRow5 (v : Word)
  /-- WR CLS_ROW6 (R163). -/
  | wrClsRow6 (v : Word)
  /-- WR RSVD@0x09C (R163). -/
  | wrRsvd09C (v : Word)
  /-- WR RSVD@0x0A0 (R163). -/
  | wrRsvd0A0 (v : Word)
  /-- WR RSVD@0x0A4 (R163). -/
  | wrRsvd0A4 (v : Word)
  /-- WR RSVD@0x0A8 (R163). -/
  | wrRsvd0A8 (v : Word)
  /-- WR RSVD@0x0AC (R163). -/
  | wrRsvd0AC (v : Word)
  /-- WR RSVD@0x0B0 (R163). -/
  | wrRsvd0B0 (v : Word)
  /-- WR RSVD@0x0B4 (R163). -/
  | wrRsvd0B4 (v : Word)
  /-- WR RSVD@0x0B8 (R163). -/
  | wrRsvd0B8 (v : Word)
  /-- WR RSVD@0x0BC (R163). -/
  | wrRsvd0BC (v : Word)
  /-- WR RSVD@0x0C0 (R163). -/
  | wrRsvd0C0 (v : Word)
  /-- WR RSVD@0x0C4 (R163). -/
  | wrRsvd0C4 (v : Word)
  /-- WR RSVD@0x0C8 (R163). -/
  | wrRsvd0C8 (v : Word)
  /-- WR RSVD@0x0CC (R163). -/
  | wrRsvd0CC (v : Word)
  /-- WR RSVD@0x0D0 (R163). -/
  | wrRsvd0D0 (v : Word)
  /-- WR RSVD@0x0D4 (R163). -/
  | wrRsvd0D4 (v : Word)
  /-- WR RSVD@0x0D8 (R163). -/
  | wrRsvd0D8 (v : Word)
  /-- WR RSVD@0x0DC (R163). -/
  | wrRsvd0DC (v : Word)
  /-- WR RSVD@0x0E0 (R163). -/
  | wrRsvd0E0 (v : Word)
  /-- WR RSVD@0x0E4 (R163). -/
  | wrRsvd0E4 (v : Word)
  /-- WR RSVD@0x0E8 (R163). -/
  | wrRsvd0E8 (v : Word)
  /-- WR RSVD@0x0EC (R163). -/
  | wrRsvd0EC (v : Word)
  /-- WR RSVD@0x0F0 (R163). -/
  | wrRsvd0F0 (v : Word)
  /-- WR RSVD@0x0F4 (R163). -/
  | wrRsvd0F4 (v : Word)
  /-- WR RSVD@0x0F8 (R163). -/
  | wrRsvd0F8 (v : Word)
  /-- WR RSVD@0x0FC (R163). -/
  | wrRsvd0FC (v : Word)
  /-- WR FRAME[0] (R163). -/
  | wrFrame0 (v : Word)
  /-- WR FRAME[1] (R163). -/
  | wrFrame1 (v : Word)
  /-- WR FRAME[2] (R163). -/
  | wrFrame2 (v : Word)
  /-- WR FRAME[3] (R163). -/
  | wrFrame3 (v : Word)
  /-- WR FRAME[4] (R163). -/
  | wrFrame4 (v : Word)
  /-- WR FRAME[5] (R163). -/
  | wrFrame5 (v : Word)
  /-- WR FRAME[6] (R163). -/
  | wrFrame6 (v : Word)
  /-- WR FRAME[7] (R163). -/
  | wrFrame7 (v : Word)
  /-- WR FRAME[8] (R163). -/
  | wrFrame8 (v : Word)
  /-- WR FRAME[9] (R163). -/
  | wrFrame9 (v : Word)
  /-- WR FRAME[10] (R163). -/
  | wrFrame10 (v : Word)
  /-- WR FRAME[11] (R163). -/
  | wrFrame11 (v : Word)
  /-- WR FRAME[12] (R163). -/
  | wrFrame12 (v : Word)
  /-- WR FRAME[13] (R163). -/
  | wrFrame13 (v : Word)
  /-- WR FRAME[14] (R163). -/
  | wrFrame14 (v : Word)
  /-- WR FRAME[15] (R163). -/
  | wrFrame15 (v : Word)
  /-- WR FRAME[16] (R163). -/
  | wrFrame16 (v : Word)
  /-- WR FRAME[17] (R163). -/
  | wrFrame17 (v : Word)
  /-- WR FRAME[18] (R163). -/
  | wrFrame18 (v : Word)
  /-- WR FRAME[19] (R163). -/
  | wrFrame19 (v : Word)
  /-- WR FRAME[20] (R163). -/
  | wrFrame20 (v : Word)
  /-- WR FRAME[21] (R163). -/
  | wrFrame21 (v : Word)
  /-- WR FRAME[22] (R163). -/
  | wrFrame22 (v : Word)
  /-- WR FRAME[23] (R163). -/
  | wrFrame23 (v : Word)
  /-- WR FRAME[24] (R163). -/
  | wrFrame24 (v : Word)
  /-- WR FRAME[25] (R163). -/
  | wrFrame25 (v : Word)
  /-- WR FRAME[26] (R163). -/
  | wrFrame26 (v : Word)
  /-- WR FRAME[27] (R163). -/
  | wrFrame27 (v : Word)
  /-- WR FRAME[28] (R163). -/
  | wrFrame28 (v : Word)
  /-- WR FRAME[29] (R163). -/
  | wrFrame29 (v : Word)
  /-- WR FRAME[30] (R163). -/
  | wrFrame30 (v : Word)
  /-- WR FRAME[31] (R163). -/
  | wrFrame31 (v : Word)
  /-- WR FRAME[32] (R163). -/
  | wrFrame32 (v : Word)
  /-- WR FRAME[33] (R163). -/
  | wrFrame33 (v : Word)
  /-- WR FRAME[34] (R163). -/
  | wrFrame34 (v : Word)
  /-- WR FRAME[35] (R163). -/
  | wrFrame35 (v : Word)
  /-- WR FRAME[36] (R163). -/
  | wrFrame36 (v : Word)
  /-- WR FRAME[37] (R163). -/
  | wrFrame37 (v : Word)
  /-- WR FRAME[38] (R163). -/
  | wrFrame38 (v : Word)
  /-- WR FRAME[39] (R163). -/
  | wrFrame39 (v : Word)
  /-- WR FRAME[40] (R163). -/
  | wrFrame40 (v : Word)
  /-- WR FRAME[41] (R163). -/
  | wrFrame41 (v : Word)
  /-- WR FRAME[42] (R163). -/
  | wrFrame42 (v : Word)
  /-- WR FRAME[43] (R163). -/
  | wrFrame43 (v : Word)
  /-- WR FRAME[44] (R163). -/
  | wrFrame44 (v : Word)
  /-- WR FRAME[45] (R163). -/
  | wrFrame45 (v : Word)
  /-- WR FRAME[46] (R163). -/
  | wrFrame46 (v : Word)
  /-- WR FRAME[47] (R163). -/
  | wrFrame47 (v : Word)
  /-- WR FRAME[48] (R163). -/
  | wrFrame48 (v : Word)
  /-- WR FRAME[49] (R163). -/
  | wrFrame49 (v : Word)
  /-- WR FRAME[50] (R163). -/
  | wrFrame50 (v : Word)
  /-- WR FRAME[51] (R163). -/
  | wrFrame51 (v : Word)
  /-- WR FRAME[52] (R163). -/
  | wrFrame52 (v : Word)
  /-- WR FRAME[53] (R163). -/
  | wrFrame53 (v : Word)
  /-- WR FRAME[54] (R163). -/
  | wrFrame54 (v : Word)
  /-- WR FRAME[55] (R163). -/
  | wrFrame55 (v : Word)
  /-- WR FRAME[56] (R163). -/
  | wrFrame56 (v : Word)
  /-- WR FRAME[57] (R163). -/
  | wrFrame57 (v : Word)
  /-- WR FRAME[58] (R163). -/
  | wrFrame58 (v : Word)
  /-- WR FRAME[59] (R163). -/
  | wrFrame59 (v : Word)
  /-- WR FRAME[60] (R163). -/
  | wrFrame60 (v : Word)
  /-- WR FRAME[61] (R163). -/
  | wrFrame61 (v : Word)
  /-- WR FRAME[62] (R163). -/
  | wrFrame62 (v : Word)
  /-- WR FRAME[63] (R163). -/
  | wrFrame63 (v : Word)
  /-- BADACC (R164). -/
  | badacc
  /-- PKT ROW0 DEVICE_ID (R103). -/
  | pktRow0DeviceId (x1 ch : BitVec 1)
  /-- PKT ROW1 OUT_OF_PROX (R104). -/
  | pktRow1OutOfProx (ch : BitVec 1)
  /-- PKT ROW2 STYLUS (R105). -/
  | pktRow2Stylus (x6 : BitVec 1) (x21 : BitVec 2) (ch : BitVec 1)
  /-- PKT ROW3 STYLUS (R106). -/
  | pktRow3Stylus (x6 ch : BitVec 1)
  /-- PKT ROW4 CURSOR1 (R107). -/
  | pktRow4Cursor1 (x6 ch : BitVec 1)
  /-- PKT ROW5 CURSOR1 (R108). -/
  | pktRow5Cursor1 (x6 ch : BitVec 1)
  /-- PKT ROW6 CURSOR2 (R109). -/
  | pktRow6Cursor2 (x6 ch : BitVec 1)
  /-- PKT UNKNOWN (R111). -/
  | pktUnknown (mid : BitVec 6) (ch : BitVec 1)
  deriving DecidableEq, Repr

end Sys2Proof
end

