-- ==== Sys2Proof/WellFormed.lean ====
section
/-! DEFINITION. Which terms of Instr are instructions. Every operand of a transaction is legal (R73, R78), and a header
row's operands are free bits; the one check is that an UNKNOWN header matches no row of the table (R111). -/

namespace Sys2Proof

/-- The header byte of an UNKNOWN packet: bit 7, the six bits 6:1, the channel bit (R64). -/
def unknownHeader (mid : BitVec 6) (ch : BitVec 1) : Byte := 0x80#8 ||| mid.setWidth 8 <<< 1 ||| ch.setWidth 8

/-- An UNKNOWN header matches no row 0..6 (R111); every other term is an instruction. -/
def Instr.wf : Instr → Bool
  | .pktUnknown mid ch => (Machine.classify (unknownHeader mid ch)).1 == 7
  | _ => true

end Sys2Proof
end

