-- ==== Sys2Proof/Decode.lean ====
section
/-! DEFINITION. The decoders and the encoder. Descriptors: R70 to R74. Headers: R68 and R103 to R111. The decoders read
the fields of R70 and the tests of R103 to R109; the encoder writes the words of R72, so that their agreement says
something of both. -/

namespace Sys2Proof

/-- Why a code is no instruction. -/
inductive DecodeError where
  /-- A descriptor with a non-zero bit where R70 requires 0: it spells no transaction (R71, I8). -/
  | reservedDescriptor (t : Descr)
  /-- A WRITE with no payload, or a payload beside a descriptor that has none (R70, R74; log 9). -/
  | payloadShape (t : Descr)
  /-- A byte with bit 7 clear, which heads no binary frame (R63, R68). -/
  | notHeader (h : Byte)
  deriving DecidableEq, Repr

/-- What a decoder answers. -/
inductive Decoded where
  | instr (i : Instr)
  | reject (e : DecodeError)
  deriving DecidableEq, Repr

/-- READ of word offset `w = bus_addr[8:2]` (R72, R162). Offsets 64 to 127 are FRAME[w - 64]. -/
def decodeRead (w : Nat) : Instr :=
  match w with
  | 0 => .rdParam
  | 1 => .rdStatus
  | 2 => .rdCtrl
  | 3 => .rdEvents
  | 4 => .rdIrqEn
  | 5 => .rdIrqStatus
  | 6 => .rdRsvd018
  | 7 => .rdRsvd01C
  | 8 => .rdPkt
  | 9 => .rdPosX
  | 10 => .rdPosY
  | 11 => .rdPressure
  | 12 => .rdTiltX
  | 13 => .rdTiltY
  | 14 => .rdTiltXb
  | 15 => .rdTiltYb
  | 16 => .rdThrottle
  | 17 => .rdRelWheel
  | 18 => .rdRotRaw
  | 19 => .rdRotAngle
  | 20 => .rdToolId
  | 21 => .rdSerial
  | 22 => .rdRsvd058
  | 23 => .rdRsvd05C
  | 24 => .rdRsvd060
  | 25 => .rdRsvd064
  | 26 => .rdRsvd068
  | 27 => .rdRsvd06C
  | 28 => .rdRsvd070
  | 29 => .rdRsvd074
  | 30 => .rdRsvd078
  | 31 => .rdRsvd07C
  | 32 => .rdClsRow0
  | 33 => .rdClsRow1
  | 34 => .rdClsRow2
  | 35 => .rdClsRow3
  | 36 => .rdClsRow4
  | 37 => .rdClsRow5
  | 38 => .rdClsRow6
  | 39 => .rdRsvd09C
  | 40 => .rdRsvd0A0
  | 41 => .rdRsvd0A4
  | 42 => .rdRsvd0A8
  | 43 => .rdRsvd0AC
  | 44 => .rdRsvd0B0
  | 45 => .rdRsvd0B4
  | 46 => .rdRsvd0B8
  | 47 => .rdRsvd0BC
  | 48 => .rdRsvd0C0
  | 49 => .rdRsvd0C4
  | 50 => .rdRsvd0C8
  | 51 => .rdRsvd0CC
  | 52 => .rdRsvd0D0
  | 53 => .rdRsvd0D4
  | 54 => .rdRsvd0D8
  | 55 => .rdRsvd0DC
  | 56 => .rdRsvd0E0
  | 57 => .rdRsvd0E4
  | 58 => .rdRsvd0E8
  | 59 => .rdRsvd0EC
  | 60 => .rdRsvd0F0
  | 61 => .rdRsvd0F4
  | 62 => .rdRsvd0F8
  | 63 => .rdRsvd0FC
  | n => .rdFrame (BitVec.ofNat 6 (n - 64))

/-- WRITE of word offsets 0 to 63 with payload `v` (R72, R163). `decodeWrite` asks
for no other offset. -/
def decodeWriteLow (v : Word) (w : Nat) : Instr :=
  match w with
  | 0 => .wrParam v
  | 1 => .wrStatus v
  | 2 => .wrCtrl v
  | 3 => .wrEvents v
  | 4 => .wrIrqEn v
  | 5 => .wrIrqStatus v
  | 6 => .wrRsvd018 v
  | 7 => .wrRsvd01C v
  | 8 => .wrPkt v
  | 9 => .wrPosX v
  | 10 => .wrPosY v
  | 11 => .wrPressure v
  | 12 => .wrTiltX v
  | 13 => .wrTiltY v
  | 14 => .wrTiltXb v
  | 15 => .wrTiltYb v
  | 16 => .wrThrottle v
  | 17 => .wrRelWheel v
  | 18 => .wrRotRaw v
  | 19 => .wrRotAngle v
  | 20 => .wrToolId v
  | 21 => .wrSerial v
  | 22 => .wrRsvd058 v
  | 23 => .wrRsvd05C v
  | 24 => .wrRsvd060 v
  | 25 => .wrRsvd064 v
  | 26 => .wrRsvd068 v
  | 27 => .wrRsvd06C v
  | 28 => .wrRsvd070 v
  | 29 => .wrRsvd074 v
  | 30 => .wrRsvd078 v
  | 31 => .wrRsvd07C v
  | 32 => .wrClsRow0 v
  | 33 => .wrClsRow1 v
  | 34 => .wrClsRow2 v
  | 35 => .wrClsRow3 v
  | 36 => .wrClsRow4 v
  | 37 => .wrClsRow5 v
  | 38 => .wrClsRow6 v
  | 39 => .wrRsvd09C v
  | 40 => .wrRsvd0A0 v
  | 41 => .wrRsvd0A4 v
  | 42 => .wrRsvd0A8 v
  | 43 => .wrRsvd0AC v
  | 44 => .wrRsvd0B0 v
  | 45 => .wrRsvd0B4 v
  | 46 => .wrRsvd0B8 v
  | 47 => .wrRsvd0BC v
  | 48 => .wrRsvd0C0 v
  | 49 => .wrRsvd0C4 v
  | 50 => .wrRsvd0C8 v
  | 51 => .wrRsvd0CC v
  | 52 => .wrRsvd0D0 v
  | 53 => .wrRsvd0D4 v
  | 54 => .wrRsvd0D8 v
  | 55 => .wrRsvd0DC v
  | 56 => .wrRsvd0E0 v
  | 57 => .wrRsvd0E4 v
  | 58 => .wrRsvd0E8 v
  | 59 => .wrRsvd0EC v
  | 60 => .wrRsvd0F0 v
  | 61 => .wrRsvd0F4 v
  | 62 => .wrRsvd0F8 v
  | _ => .wrRsvd0FC v

/-- WRITE of word offsets 64 + i to FRAME[i] with payload `v`, i = 0..63 (R72, R163). `decodeWrite` asks for no other
offset. -/
def decodeWriteFrame (v : Word) (i : Nat) : Instr :=
  match i with
  | 0 => .wrFrame0 v
  | 1 => .wrFrame1 v
  | 2 => .wrFrame2 v
  | 3 => .wrFrame3 v
  | 4 => .wrFrame4 v
  | 5 => .wrFrame5 v
  | 6 => .wrFrame6 v
  | 7 => .wrFrame7 v
  | 8 => .wrFrame8 v
  | 9 => .wrFrame9 v
  | 10 => .wrFrame10 v
  | 11 => .wrFrame11 v
  | 12 => .wrFrame12 v
  | 13 => .wrFrame13 v
  | 14 => .wrFrame14 v
  | 15 => .wrFrame15 v
  | 16 => .wrFrame16 v
  | 17 => .wrFrame17 v
  | 18 => .wrFrame18 v
  | 19 => .wrFrame19 v
  | 20 => .wrFrame20 v
  | 21 => .wrFrame21 v
  | 22 => .wrFrame22 v
  | 23 => .wrFrame23 v
  | 24 => .wrFrame24 v
  | 25 => .wrFrame25 v
  | 26 => .wrFrame26 v
  | 27 => .wrFrame27 v
  | 28 => .wrFrame28 v
  | 29 => .wrFrame29 v
  | 30 => .wrFrame30 v
  | 31 => .wrFrame31 v
  | 32 => .wrFrame32 v
  | 33 => .wrFrame33 v
  | 34 => .wrFrame34 v
  | 35 => .wrFrame35 v
  | 36 => .wrFrame36 v
  | 37 => .wrFrame37 v
  | 38 => .wrFrame38 v
  | 39 => .wrFrame39 v
  | 40 => .wrFrame40 v
  | 41 => .wrFrame41 v
  | 42 => .wrFrame42 v
  | 43 => .wrFrame43 v
  | 44 => .wrFrame44 v
  | 45 => .wrFrame45 v
  | 46 => .wrFrame46 v
  | 47 => .wrFrame47 v
  | 48 => .wrFrame48 v
  | 49 => .wrFrame49 v
  | 50 => .wrFrame50 v
  | 51 => .wrFrame51 v
  | 52 => .wrFrame52 v
  | 53 => .wrFrame53 v
  | 54 => .wrFrame54 v
  | 55 => .wrFrame55 v
  | 56 => .wrFrame56 v
  | 57 => .wrFrame57 v
  | 58 => .wrFrame58 v
  | 59 => .wrFrame59 v
  | 60 => .wrFrame60 v
  | 61 => .wrFrame61 v
  | 62 => .wrFrame62 v
  | _ => .wrFrame63 v

/-- WRITE of word offset `w` (0..127) with payload `v` (R72, R163). -/
def decodeWrite (v : Word) (w : Nat) : Instr :=
  if w < 64 then decodeWriteLow v w else decodeWriteFrame v (w - 64)

/-- A descriptor and its payload (R70). The class is t[15:14] (R74); a bit that R70 requires to be 0 and is not makes
the descriptor reserved (R71). -/
def decodeXact (t : Descr) (payload : Option Word) : Decoded :=
  if t.extractLsb' 14 2 = 0b00 then
    if t.extractLsb' 8 6 = 0 then
      match payload with
      | none => .instr (.push (t.extractLsb' 0 8))
      | some _ => .reject (.payloadShape t)
    else .reject (.reservedDescriptor t)
  else if t.extractLsb' 14 2 = 0b01 then
    if t.extractLsb' 0 7 = 0 then
      match payload with
      | none => .instr (decodeRead (t.extractLsb' 7 7).toNat)
      | some _ => .reject (.payloadShape t)
    else .reject (.reservedDescriptor t)
  else if t.extractLsb' 14 2 = 0b10 then
    if t.extractLsb' 0 7 = 0 then
      match payload with
      | none => .reject (.payloadShape t)
      | some v => .instr (decodeWrite v (t.extractLsb' 7 7).toNat)
    else .reject (.reservedDescriptor t)
  else
    if t.extractLsb' 0 14 = 0 then
      match payload with
      | none => .instr .badacc
      | some _ => .reject (.payloadShape t)
    else .reject (.reservedDescriptor t)

/-- A header byte: the rows' tests in the order 0 to 6, first match wins; a header with bit 7 set that matches none is
UNKNOWN (R103 to R109, R111). DEDUCED, safe: log 13. -/
def decodeHeader (h : Byte) : Decoded :=
  if h &&& 0xFC = 0xC0 then .instr (.pktRow0DeviceId (h.extractLsb' 1 1) (h.extractLsb' 0 1))
  else if h &&& 0xFE = 0x80 then .instr (.pktRow1OutOfProx (h.extractLsb' 0 1))
  else if h &&& 0xB8 = 0xA0 then .instr (.pktRow2Stylus (h.extractLsb' 6 1) (h.extractLsb' 1 2) (h.extractLsb' 0 1))
  else if h &&& 0xBE = 0xB4 then .instr (.pktRow3Stylus (h.extractLsb' 6 1) (h.extractLsb' 0 1))
  else if h &&& 0xBE = 0xA8 then .instr (.pktRow4Cursor1 (h.extractLsb' 6 1) (h.extractLsb' 0 1))
  else if h &&& 0xBE = 0xB0 then .instr (.pktRow5Cursor1 (h.extractLsb' 6 1) (h.extractLsb' 0 1))
  else if h &&& 0xBE = 0xAA then .instr (.pktRow6Cursor2 (h.extractLsb' 6 1) (h.extractLsb' 0 1))
  else if h.getLsbD 7 then .instr (.pktUnknown (h.extractLsb' 1 6) (h.extractLsb' 0 1))
  else .reject (.notHeader h)

/-- The decoder, total on every code (R78, R79). -/
def decode : Code → Decoded
  | .xact t payload => decodeXact t payload
  | .header h => decodeHeader h

/-- The header byte of each header row: the bits its mask compares, with the free bits in their places (R64, R102). -/
def headerRow0 (x1 ch : BitVec 1) : Byte := 0xC0#8 ||| x1.setWidth 8 <<< 1 ||| ch.setWidth 8
def headerRow1 (ch : BitVec 1) : Byte := 0x80#8 ||| ch.setWidth 8
def headerRow2 (x6 : BitVec 1) (x21 : BitVec 2) (ch : BitVec 1) : Byte :=
  0xA0#8 ||| x6.setWidth 8 <<< 6 ||| x21.setWidth 8 <<< 1 ||| ch.setWidth 8
def headerRow3 (x6 ch : BitVec 1) : Byte := 0xB4#8 ||| x6.setWidth 8 <<< 6 ||| ch.setWidth 8
def headerRow4 (x6 ch : BitVec 1) : Byte := 0xA8#8 ||| x6.setWidth 8 <<< 6 ||| ch.setWidth 8
def headerRow5 (x6 ch : BitVec 1) : Byte := 0xB0#8 ||| x6.setWidth 8 <<< 6 ||| ch.setWidth 8
def headerRow6 (x6 ch : BitVec 1) : Byte := 0xAA#8 ||| x6.setWidth 8 <<< 6 ||| ch.setWidth 8

/-- The words of an instruction, from R70 and R72 for a transaction and from the table of R102 for a header row. -/
def encode : Instr → Code
  | .push b => .xact (b.setWidth 16) none
  | .rdParam => .xact 0x4000 none
  | .rdStatus => .xact 0x4080 none
  | .rdCtrl => .xact 0x4100 none
  | .rdEvents => .xact 0x4180 none
  | .rdIrqEn => .xact 0x4200 none
  | .rdIrqStatus => .xact 0x4280 none
  | .rdPkt => .xact 0x4400 none
  | .rdPosX => .xact 0x4480 none
  | .rdPosY => .xact 0x4500 none
  | .rdPressure => .xact 0x4580 none
  | .rdTiltX => .xact 0x4600 none
  | .rdTiltY => .xact 0x4680 none
  | .rdTiltXb => .xact 0x4700 none
  | .rdTiltYb => .xact 0x4780 none
  | .rdThrottle => .xact 0x4800 none
  | .rdRelWheel => .xact 0x4880 none
  | .rdRotRaw => .xact 0x4900 none
  | .rdRotAngle => .xact 0x4980 none
  | .rdToolId => .xact 0x4A00 none
  | .rdSerial => .xact 0x4A80 none
  | .rdClsRow0 => .xact 0x5000 none
  | .rdClsRow1 => .xact 0x5080 none
  | .rdClsRow2 => .xact 0x5100 none
  | .rdClsRow3 => .xact 0x5180 none
  | .rdClsRow4 => .xact 0x5200 none
  | .rdClsRow5 => .xact 0x5280 none
  | .rdClsRow6 => .xact 0x5300 none
  | .rdFrame k => .xact (0x6000#16 ||| k.setWidth 16 <<< 7) none
  | .rdRsvd018 => .xact 0x4300 none
  | .rdRsvd01C => .xact 0x4380 none
  | .rdRsvd058 => .xact 0x4B00 none
  | .rdRsvd05C => .xact 0x4B80 none
  | .rdRsvd060 => .xact 0x4C00 none
  | .rdRsvd064 => .xact 0x4C80 none
  | .rdRsvd068 => .xact 0x4D00 none
  | .rdRsvd06C => .xact 0x4D80 none
  | .rdRsvd070 => .xact 0x4E00 none
  | .rdRsvd074 => .xact 0x4E80 none
  | .rdRsvd078 => .xact 0x4F00 none
  | .rdRsvd07C => .xact 0x4F80 none
  | .rdRsvd09C => .xact 0x5380 none
  | .rdRsvd0A0 => .xact 0x5400 none
  | .rdRsvd0A4 => .xact 0x5480 none
  | .rdRsvd0A8 => .xact 0x5500 none
  | .rdRsvd0AC => .xact 0x5580 none
  | .rdRsvd0B0 => .xact 0x5600 none
  | .rdRsvd0B4 => .xact 0x5680 none
  | .rdRsvd0B8 => .xact 0x5700 none
  | .rdRsvd0BC => .xact 0x5780 none
  | .rdRsvd0C0 => .xact 0x5800 none
  | .rdRsvd0C4 => .xact 0x5880 none
  | .rdRsvd0C8 => .xact 0x5900 none
  | .rdRsvd0CC => .xact 0x5980 none
  | .rdRsvd0D0 => .xact 0x5A00 none
  | .rdRsvd0D4 => .xact 0x5A80 none
  | .rdRsvd0D8 => .xact 0x5B00 none
  | .rdRsvd0DC => .xact 0x5B80 none
  | .rdRsvd0E0 => .xact 0x5C00 none
  | .rdRsvd0E4 => .xact 0x5C80 none
  | .rdRsvd0E8 => .xact 0x5D00 none
  | .rdRsvd0EC => .xact 0x5D80 none
  | .rdRsvd0F0 => .xact 0x5E00 none
  | .rdRsvd0F4 => .xact 0x5E80 none
  | .rdRsvd0F8 => .xact 0x5F00 none
  | .rdRsvd0FC => .xact 0x5F80 none
  | .wrCtrl v => .xact 0x8100 (some v)
  | .wrEvents v => .xact 0x8180 (some v)
  | .wrIrqEn v => .xact 0x8200 (some v)
  | .wrParam v => .xact 0x8000 (some v)
  | .wrStatus v => .xact 0x8080 (some v)
  | .wrIrqStatus v => .xact 0x8280 (some v)
  | .wrRsvd018 v => .xact 0x8300 (some v)
  | .wrRsvd01C v => .xact 0x8380 (some v)
  | .wrPkt v => .xact 0x8400 (some v)
  | .wrPosX v => .xact 0x8480 (some v)
  | .wrPosY v => .xact 0x8500 (some v)
  | .wrPressure v => .xact 0x8580 (some v)
  | .wrTiltX v => .xact 0x8600 (some v)
  | .wrTiltY v => .xact 0x8680 (some v)
  | .wrTiltXb v => .xact 0x8700 (some v)
  | .wrTiltYb v => .xact 0x8780 (some v)
  | .wrThrottle v => .xact 0x8800 (some v)
  | .wrRelWheel v => .xact 0x8880 (some v)
  | .wrRotRaw v => .xact 0x8900 (some v)
  | .wrRotAngle v => .xact 0x8980 (some v)
  | .wrToolId v => .xact 0x8A00 (some v)
  | .wrSerial v => .xact 0x8A80 (some v)
  | .wrRsvd058 v => .xact 0x8B00 (some v)
  | .wrRsvd05C v => .xact 0x8B80 (some v)
  | .wrRsvd060 v => .xact 0x8C00 (some v)
  | .wrRsvd064 v => .xact 0x8C80 (some v)
  | .wrRsvd068 v => .xact 0x8D00 (some v)
  | .wrRsvd06C v => .xact 0x8D80 (some v)
  | .wrRsvd070 v => .xact 0x8E00 (some v)
  | .wrRsvd074 v => .xact 0x8E80 (some v)
  | .wrRsvd078 v => .xact 0x8F00 (some v)
  | .wrRsvd07C v => .xact 0x8F80 (some v)
  | .wrClsRow0 v => .xact 0x9000 (some v)
  | .wrClsRow1 v => .xact 0x9080 (some v)
  | .wrClsRow2 v => .xact 0x9100 (some v)
  | .wrClsRow3 v => .xact 0x9180 (some v)
  | .wrClsRow4 v => .xact 0x9200 (some v)
  | .wrClsRow5 v => .xact 0x9280 (some v)
  | .wrClsRow6 v => .xact 0x9300 (some v)
  | .wrRsvd09C v => .xact 0x9380 (some v)
  | .wrRsvd0A0 v => .xact 0x9400 (some v)
  | .wrRsvd0A4 v => .xact 0x9480 (some v)
  | .wrRsvd0A8 v => .xact 0x9500 (some v)
  | .wrRsvd0AC v => .xact 0x9580 (some v)
  | .wrRsvd0B0 v => .xact 0x9600 (some v)
  | .wrRsvd0B4 v => .xact 0x9680 (some v)
  | .wrRsvd0B8 v => .xact 0x9700 (some v)
  | .wrRsvd0BC v => .xact 0x9780 (some v)
  | .wrRsvd0C0 v => .xact 0x9800 (some v)
  | .wrRsvd0C4 v => .xact 0x9880 (some v)
  | .wrRsvd0C8 v => .xact 0x9900 (some v)
  | .wrRsvd0CC v => .xact 0x9980 (some v)
  | .wrRsvd0D0 v => .xact 0x9A00 (some v)
  | .wrRsvd0D4 v => .xact 0x9A80 (some v)
  | .wrRsvd0D8 v => .xact 0x9B00 (some v)
  | .wrRsvd0DC v => .xact 0x9B80 (some v)
  | .wrRsvd0E0 v => .xact 0x9C00 (some v)
  | .wrRsvd0E4 v => .xact 0x9C80 (some v)
  | .wrRsvd0E8 v => .xact 0x9D00 (some v)
  | .wrRsvd0EC v => .xact 0x9D80 (some v)
  | .wrRsvd0F0 v => .xact 0x9E00 (some v)
  | .wrRsvd0F4 v => .xact 0x9E80 (some v)
  | .wrRsvd0F8 v => .xact 0x9F00 (some v)
  | .wrRsvd0FC v => .xact 0x9F80 (some v)
  | .wrFrame0 v => .xact 0xA000 (some v)
  | .wrFrame1 v => .xact 0xA080 (some v)
  | .wrFrame2 v => .xact 0xA100 (some v)
  | .wrFrame3 v => .xact 0xA180 (some v)
  | .wrFrame4 v => .xact 0xA200 (some v)
  | .wrFrame5 v => .xact 0xA280 (some v)
  | .wrFrame6 v => .xact 0xA300 (some v)
  | .wrFrame7 v => .xact 0xA380 (some v)
  | .wrFrame8 v => .xact 0xA400 (some v)
  | .wrFrame9 v => .xact 0xA480 (some v)
  | .wrFrame10 v => .xact 0xA500 (some v)
  | .wrFrame11 v => .xact 0xA580 (some v)
  | .wrFrame12 v => .xact 0xA600 (some v)
  | .wrFrame13 v => .xact 0xA680 (some v)
  | .wrFrame14 v => .xact 0xA700 (some v)
  | .wrFrame15 v => .xact 0xA780 (some v)
  | .wrFrame16 v => .xact 0xA800 (some v)
  | .wrFrame17 v => .xact 0xA880 (some v)
  | .wrFrame18 v => .xact 0xA900 (some v)
  | .wrFrame19 v => .xact 0xA980 (some v)
  | .wrFrame20 v => .xact 0xAA00 (some v)
  | .wrFrame21 v => .xact 0xAA80 (some v)
  | .wrFrame22 v => .xact 0xAB00 (some v)
  | .wrFrame23 v => .xact 0xAB80 (some v)
  | .wrFrame24 v => .xact 0xAC00 (some v)
  | .wrFrame25 v => .xact 0xAC80 (some v)
  | .wrFrame26 v => .xact 0xAD00 (some v)
  | .wrFrame27 v => .xact 0xAD80 (some v)
  | .wrFrame28 v => .xact 0xAE00 (some v)
  | .wrFrame29 v => .xact 0xAE80 (some v)
  | .wrFrame30 v => .xact 0xAF00 (some v)
  | .wrFrame31 v => .xact 0xAF80 (some v)
  | .wrFrame32 v => .xact 0xB000 (some v)
  | .wrFrame33 v => .xact 0xB080 (some v)
  | .wrFrame34 v => .xact 0xB100 (some v)
  | .wrFrame35 v => .xact 0xB180 (some v)
  | .wrFrame36 v => .xact 0xB200 (some v)
  | .wrFrame37 v => .xact 0xB280 (some v)
  | .wrFrame38 v => .xact 0xB300 (some v)
  | .wrFrame39 v => .xact 0xB380 (some v)
  | .wrFrame40 v => .xact 0xB400 (some v)
  | .wrFrame41 v => .xact 0xB480 (some v)
  | .wrFrame42 v => .xact 0xB500 (some v)
  | .wrFrame43 v => .xact 0xB580 (some v)
  | .wrFrame44 v => .xact 0xB600 (some v)
  | .wrFrame45 v => .xact 0xB680 (some v)
  | .wrFrame46 v => .xact 0xB700 (some v)
  | .wrFrame47 v => .xact 0xB780 (some v)
  | .wrFrame48 v => .xact 0xB800 (some v)
  | .wrFrame49 v => .xact 0xB880 (some v)
  | .wrFrame50 v => .xact 0xB900 (some v)
  | .wrFrame51 v => .xact 0xB980 (some v)
  | .wrFrame52 v => .xact 0xBA00 (some v)
  | .wrFrame53 v => .xact 0xBA80 (some v)
  | .wrFrame54 v => .xact 0xBB00 (some v)
  | .wrFrame55 v => .xact 0xBB80 (some v)
  | .wrFrame56 v => .xact 0xBC00 (some v)
  | .wrFrame57 v => .xact 0xBC80 (some v)
  | .wrFrame58 v => .xact 0xBD00 (some v)
  | .wrFrame59 v => .xact 0xBD80 (some v)
  | .wrFrame60 v => .xact 0xBE00 (some v)
  | .wrFrame61 v => .xact 0xBE80 (some v)
  | .wrFrame62 v => .xact 0xBF00 (some v)
  | .wrFrame63 v => .xact 0xBF80 (some v)
  | .badacc => .xact 0xC000 none
  | .pktRow0DeviceId x1 ch => .header (headerRow0 x1 ch)
  | .pktRow1OutOfProx ch => .header (headerRow1 ch)
  | .pktRow2Stylus x6 x21 ch => .header (headerRow2 x6 x21 ch)
  | .pktRow3Stylus x6 ch => .header (headerRow3 x6 ch)
  | .pktRow4Cursor1 x6 ch => .header (headerRow4 x6 ch)
  | .pktRow5Cursor1 x6 ch => .header (headerRow5 x6 ch)
  | .pktRow6Cursor2 x6 ch => .header (headerRow6 x6 ch)
  | .pktUnknown mid ch => .header (unknownHeader mid ch)

/-- The code whose bits are `w`, numbered as spec/opcode_table.json numbers them. A row of 8 bits is a header; a wider
one is a descriptor in bits 15:0 with, for the class WRITE (t[15:14] = 0b10), its payload in bits 47:16. -/
def codeOfTableWord (nbits w : Nat) : Code :=
  if nbits ≤ 8 then .header (BitVec.ofNat 8 w)
  else if (BitVec.ofNat 16 w).extractLsb' 14 2 = 0b10 then .xact (BitVec.ofNat 16 w) (some (BitVec.ofNat 32 (w / 65536)))
  else .xact (BitVec.ofNat 16 w) none

/-- The instruction the decoder reads from a table word, none where it rejects. -/
def decodeTableWord (nbits w : Nat) : Option Instr :=
  match decode (codeOfTableWord nbits w) with
  | .instr i => some i
  | .reject _ => none

end Sys2Proof
end

