-- ==== Sys2Proof/Machine/State.lean ====
section
/-! DEFINITION. The state of the block (10_state.md R19 to R26), the inputs and outputs of its ports (R32), and the
reasons a step can stop. -/

namespace Sys2Proof.Machine

/-- The frame buffer (R19, R46): the bytes that are not 0x00, as (index, byte), indices strictly rising. An index that
is not listed reads 0x00, the buffer's reset contents (R44). -/
abbrev Memory := List Host.Cell

/-- What the output ports show in the cycle last stepped (R32, R167). The model's own record: the block stores none of
it (log 6). The port `irq` is a function of the state (R30). -/
structure PortsOut where
  /-- `bus_rdata`. -/
  rdata : Word
  /-- `bus_err`. -/
  err : Bool
  /-- `in_ready` as sampled at the start of the cycle (R28). -/
  inReady : Bool
  /-- Whether the byte offered in the cycle was accepted (R92). -/
  accepted : Bool
  deriving DecidableEq, Repr

/-- The classifier's outputs (R101, R110 to R114). -/
structure ClsOut where
  kind : BitVec 3
  row : BitVec 3
  ch : Bool
  prox : Bool
  sec : Bool
  hdr : Byte
  deriving DecidableEq, Repr

/-- The classifier's outputs while VALID_BIN = 0 (R101). -/
def ClsOut.inactive : ClsOut where
  kind := 0
  row := 7
  ch := false
  prox := false
  sec := false
  hdr := 0

/-- A bus access as the ports present it: `bus_we`, `bus_addr`, `bus_size`, `bus_wdata` with `bus_req = 1` (R32). -/
structure BusReq where
  we : Bool
  addr : BitVec 9
  size : BitVec 2
  wdata : Word
  deriving DecidableEq, Repr

/-- The input ports in one clock cycle (R32): `byte` is `in_byte` where `in_valid = 1`, `bus` is the access where
`bus_req = 1`. -/
structure PortsIn where
  rst : Bool
  byte : Option Byte
  bus : Option BusReq
  deriving DecidableEq, Repr

/-- One entry of the inputs to come. The model's own: the surroundings of the block (log 3). -/
inductive Input where
  /-- A line of program text: one transaction, alone in its cycle (R75, R167). -/
  | text (t : Descr) (payload : Option Word)
  /-- A clock cycle with these input ports (R32, R167). -/
  | cycle (p : PortsIn)
  /-- The classifier's outputs are observed; no clock edge (R101; log 7). -/
  | classify
  deriving DecidableEq, Repr

/-- The machine. Fields `buf` to `ie` are the stored state of the block (R19 to R26); `params` is what an instance fixes
(R45; log 1); `out`, `cls` and `inputs` are the model's own (logs 6, 7 and 3). -/
structure State where
  /-- The parameters of the instance (R9, R10, R11, R45). No step writes them. -/
  params : Params
  /-- `buf[0..BUF_CAP-1]`, the frame buffer (R19). -/
  buf : Memory
  /-- `IDX`, the write index (R20). -/
  idx : Nat
  /-- `PEND`, a complete frame is held (R21). -/
  pend : Bool
  /-- `FKIND`, the kind of the pending frame: false binary, true ASCII (R22). -/
  fkind : Bool
  /-- `FLEN`, the length of the pending frame in bytes (R23). -/
  flen : Nat
  /-- `EV_OVF`, the sticky overflow event (R24). -/
  evOvf : Bool
  /-- `EV_RSY`, the sticky resync event (R25). -/
  evRsy : Bool
  /-- `IE[2:0]`: bit 0 FRM_IE, bit 1 OVF_IE, bit 2 RSY_IE (R26). -/
  ie : BitVec 3
  /-- The output ports in the cycle last stepped (R32). -/
  out : PortsOut
  /-- The classifier's outputs when last observed (R101). -/
  cls : ClsOut
  /-- The inputs still to come (R32, R75). -/
  inputs : List Input
  deriving DecidableEq, Repr

/-- Why a step would stop with a fault. There is no reason: "No PUSH, READ or WRITE ever stops the block" (R169), and a
bus error is a response and not a stop (R170). An empty type is the safe choice: a claim that no step faults is true of
the block. -/
inductive Fault where
  deriving DecidableEq, Repr

/-- Why a step is refused. -/
inductive Refusal where
  /-- Raised by `exec` for an instruction without a meaning. None is left, so nothing raises it. Safe. -/
  | notModelled (mnemonic : String)
  /-- Raised by a line of text whose descriptor is reserved: it spells no transaction and "a model refuses it"
  (R71, I8). Safe: no port of the block can produce one. -/
  | reservedDescriptor (t : Descr)
  /-- Raised by a line of text that is a WRITE without a payload or another class with one (R70, R74). Safe: the line
  spells no transaction (log 9). -/
  | payloadShape (t : Descr)
  /-- Raised by nothing a program can do: a header byte without bit 7 was to be run as a header row (R63). Safe. -/
  | notHeader (h : Byte)
  /-- Raised by PUSH where MemWrite's index is not below BUF_CAP, which I14 refuses: "unreachable; a model error"
  (R48). Safe. -/
  | bufferIndex (i : Nat)
  deriving DecidableEq, Repr

/-- What an instruction or a step answers. -/
abbrev Result := Host.Outcome State Fault Refusal

/-- The state after a hardware reset (R44, R185) of the reference instance (R9, R10, R11). The ports show what R167
returns in a reset cycle without a bus access; the classifier shows its inactive outputs (R101). DESIGN CHOICE where the spec has no such state: logs 1, 3, 6, 7 and 11. -/
def State.reset : State where
  params := Params.reference
  buf := []
  idx := 0
  pend := false
  fkind := false
  flen := 0
  evOvf := false
  evRsy := false
  ie := 0
  out := { rdata := 0, err := false, inReady := false, accepted := false }
  cls := ClsOut.inactive
  inputs := []

end Sys2Proof.Machine
end

