-- ==== Sys2Proof/Machine/Ops.lean ====
section
/-! DEFINITION. The named operations: the buffer primitives (R48), the bus responses with the bus error as the one
exception (R136, R170), clear, ACK, SRST, hardware reset (R15, R141, R185), and the steps of PUSH (R86 to R91). -/

namespace Sys2Proof.Machine

/-! Constants of the frame format. -/

/-- `BIN_LEN`, the length of a binary frame (R6). -/
def binLen : Nat := 9

/-- `TERM`, the ASCII line terminator (R7). -/
def term : Byte := 0x0D

/-- `NUL`, the byte that replaces the terminator (R7). -/
def nul : Byte := 0x00

/-! The frame buffer. -/

/-- `MemRead(i, 1)` (R48): the byte at index `i`; an index that is not listed reads 0x00
(DEDUCED, safe: log 15). -/
def Memory.read : Memory → Nat → Byte
  | [], _ => 0
  | (b, w) :: m, a => if a = b then w else Memory.read m a

/-- The buffer with byte `v` at index `a`, in canonical form: writing 0x00 takes the entry out. -/
def Memory.write : Memory → Nat → Byte → Memory
  | [], a, v => if v = 0 then [] else [(a, v)]
  | (b, w) :: m, a, v =>
    if a < b then (if v = 0 then (b, w) :: m else (a, v) :: (b, w) :: m)
    else if a = b then (if v = 0 then m else (a, v) :: m)
    else (b, w) :: Memory.write m a v

/-- Indices strictly rising from `lo` on, and no entry that reads as an unlisted index does. -/
def Memory.wfFrom (lo : Nat) : Memory → Bool
  | [] => true
  | (a, v) :: m => decide (lo ≤ a) && (v != 0) && Memory.wfFrom (a + 1) m

/-- The canonical form of a buffer. -/
def Memory.wf (m : Memory) : Bool := Memory.wfFrom 0 m

/-- Every listed index is below `cap` (R46). -/
def Memory.below (cap : Nat) (m : Memory) : Bool := m.all fun c => decide (c.1 < cap)

/-- `buf[i]` as a number; `d0 .. d8` of R15 are `d s 0 .. d s 8`. -/
def d (s : State) (i : Nat) : Nat := (Memory.read s.buf i).toNat

/-- `MemWrite(i, 1, v)` (R48): it requires i < BUF_CAP; another index is refused (I14;
DEDUCED, safe: log 10). -/
def memWrite (i : Nat) (v : Byte) (s : State) : Option State :=
  if i < s.params.bufCap then some { s with buf := Memory.write s.buf i v } else none

/-- `clear()` (R15): every byte 0x00, IDX 0. -/
def clear (s : State) : State := { s with buf := [], idx := 0 }

/-! The ports. -/

/-- The bus response of the cycle: `bus_rdata` and `bus_err` (R32, R136). -/
def respond (rdata : Word) (err : Bool) (s : State) : State := { s with out := { s.out with rdata := rdata, err := err } }

/-- A READ answers its register's value and `bus_err = 0`, and changes no state (R136, R54). -/
def readReply (v : Word) (s : State) : Result := .next (respond v false s)

/-- A WRITE answers `bus_rdata = 0` and `bus_err = 0` (R136). -/
def writeReply (s : State) : Result := .next (respond 0 false s)

/-- A WRITE with no effect (R43, R163): the payload is dropped. -/
def writeIgnored (_v : Word) (s : State) : Result := writeReply s

/-- `raise BusError()`, the one exception of the block (R15, R170): `bus_err = 1`, `bus_rdata = 0`, no state element
changes, nothing is saved and nothing is vectored (R169, R175). There is no return operation (R176).
A next state where I9 says fault: DEDUCED, safe, log 8. -/
def raiseBusError (s : State) : State := respond 0 true s

/-- The cause code of the bus response: BUS_ERR = 1, and 0 for no error (R170). -/
def errCode (s : State) : Nat := if s.out.err then 1 else 0

/-- Whether the offered byte was accepted in the cycle (R92). -/
def handshake (accepted : Bool) (s : State) : State := { s with out := { s.out with accepted := accepted } }

/-- The start of a cycle with `rst = 0`: `in_ready = NOT PEND`, and no response yet (R28, R167). -/
def beginCycle (s : State) : State :=
  { s with out := { rdata := 0, err := false, inReady := !s.pend, accepted := false } }

/-- The classifier's outputs are observed (R101). -/
def latchCls (c : ClsOut) (s : State) : State := { s with cls := c }

/-! Releasing a frame, soft reset, hardware reset. -/

/-- PEND, FKIND and FLEN to 0, and the buffer cleared: the effect of ACK on a pending frame (R141). -/
def release (s : State) : State := clear { s with pend := false, fkind := false, flen := 0 }

/-- SRST: the framer and the event flags to their reset values; IE is kept (R141, R186). -/
def softReset (s : State) : State := { release s with evOvf := false, evRsy := false }

/-- `WR_CTRL(v)`: SRST before ACK; ACK only on a pending frame (R141). -/
def writeCtrl (v : Word) (s : State) : State :=
  if v.getLsbD 1 then softReset s
  else if v.getLsbD 0 && s.pend then release s
  else s

/-- EVENTS is write-one-to-clear (R142). -/
def writeEvents (v : Word) (s : State) : State :=
  { s with evOvf := s.evOvf && !v.getLsbD 0, evRsy := s.evRsy && !v.getLsbD 1 }

/-- `IE <- v[2:0]` (R143). -/
def writeIrqEn (v : Word) (s : State) : State := { s with ie := v.extractLsb' 0 3 }

/-- The reset state of this instance (R44, R185): the parameters stay (R45), and so do the inputs to come. -/
def hardReset (s : State) : State := { State.reset with params := s.params, inputs := s.inputs }

/-- A cycle with `rst = 1` (R167, R185): the reset state, no byte accepted, `in_ready = 0`, and any bus access answered
with `bus_err = 1`, `bus_rdata = 0`. -/
def resetCycle (busPresent : Bool) (s : State) : State :=
  { hardReset s with out := { rdata := 0, err := busPresent, inReady := false, accepted := false } }

/-! The steps of PUSH. -/

/-- Step 1 (R86): a byte with bit 7 set discards the partial frame; EV_RSY if it was not empty. Step 2 (R87): a byte
that finds the buffer full discards it; EV_OVF. -/
def pushRestart (b : Byte) (s : State) : State :=
  if b.getLsbD 7 then clear { s with evRsy := s.evRsy || s.idx != 0 }
  else if s.idx = s.params.bufCap then clear { s with evOvf := true }
  else s

/-- Step 3 (R88): append at IDX. -/
def pushAppend (b : Byte) (s : State) : Option State :=
  (memWrite s.idx b s).map fun t => { t with idx := t.idx + 1 }

/-- A frame is complete: PEND, FKIND and FLEN are set and IDX returns to 0 (R89, R90). -/
def deliver (ascii : Bool) (len : Nat) (s : State) : State :=
  { s with pend := true, fkind := ascii, flen := len, idx := 0 }

/-- Bit 7 of byte 0 of the buffer (R27, R89, R90). -/
def binaryStart (s : State) : Bool := (Memory.read s.buf 0).getLsbD 7

/-- Step 4 (R89): nine bytes with a header complete a binary frame. Step 5 (R90): a terminator on an ASCII line is
overwritten with NUL and completes it. Otherwise keep accumulating (R91). -/
def pushComplete (b : Byte) (s : State) : Option State :=
  if s.idx = binLen ∧ binaryStart s = true then some (deliver false binLen s)
  else if b = term ∧ binaryStart s = false then
    (memWrite (s.idx - 1) nul s).map fun t => deliver true t.idx t
  else some s

/-- `PUSH(b)` on a state with PEND = 0 (R85). None where a buffer index is out of range (I14). -/
def framerPush (b : Byte) (s : State) : Option State :=
  (pushAppend b (pushRestart b s)).bind (pushComplete b)

/-! Joining outcomes. -/

/-- Go on from a next state; a stop stays a stop. -/
def andThen (o : Result) (f : State → Result) : Result :=
  match o with
  | .next s => f s
  | .fault r => .fault r
  | .refused r => .refused r

/-- Change a next state; a stop stays a stop. -/
def mapNext (o : Result) (f : State → State) : Result := andThen o fun s => .next (f s)

/-- The refusal that a decoding error is. -/
def refusalOf : DecodeError → Refusal
  | .reservedDescriptor t => .reservedDescriptor t
  | .payloadShape t => .payloadShape t
  | .notHeader h => .notHeader h

end Sys2Proof.Machine
end

