-- ==== Sys2Proof/Machine/Flags.lean ====
section
/-! DEFINITION. The derived state: MODE, in_ready, VALID_BIN, irq and its three sources (R27 to R30, R38), and the
classifier's outputs (R101, R111 to R114). -/

namespace Sys2Proof.Machine

/-- The Frame's mode flag (R27). -/
inductive Mode where
  | unknown
  | binary
  | ascii
  deriving DecidableEq, Repr

/-- `MODE`, a function of IDX and buf[0][7] (R27). -/
def mode (s : State) : Mode :=
  if s.idx = 0 then .unknown else if binaryStart s then .binary else .ascii

/-- The 2-bit code of MODE; 0b11 never occurs (R27). -/
def Mode.code : Mode → BitVec 2
  | .unknown => 0b00
  | .binary => 0b01
  | .ascii => 0b10

/-- `in_ready` in a cycle with `rst = 0` (R28). -/
def inReady (s : State) : Bool := !s.pend

/-- `VALID_BIN`: a binary frame is pending (R29). -/
def validBin (s : State) : Bool := s.pend && !s.fkind

/-- The pending interrupt sources FRAME, OVF and RSY (R38, R172). -/
def irqFrm (s : State) : Bool := s.pend && s.ie.getLsbD 0
def irqOvf (s : State) : Bool := s.evOvf && s.ie.getLsbD 1
def irqRsy (s : State) : Bool := s.evRsy && s.ie.getLsbD 2

/-- `irq`, a level (R30, R173). -/
def irq (s : State) : Bool := irqFrm s || irqOvf s || irqRsy s

/-- The kinds that carry the proximity bit: STYLUS, CURSOR1, CURSOR2 (R113). -/
def kindHasProx (kind : BitVec 3) : Bool := kind == kindStylus || kind == kindCursor1 || kind == kindCursor2

/-- CH, the channel bit (R112). -/
def chOf (h : Byte) : Bool := h.getLsbD 0

/-- PROX of a header of this kind (R113). -/
def proxOf (p : Params) (kind : BitVec 3) (h : Byte) : Bool := kindHasProx kind && h.getLsbD p.proxBit

/-- SEC, the secondary-channel flag (R114). -/
def secOf (p : Params) (h : Byte) : Bool := (h &&& p.secMask) != 0

/-- The classifier's outputs for header `h` whose row and kind are these, while a binary frame is pending; the inactive
outputs otherwise (R101, R111 to R114). -/
def clsOutputs (s : State) (row kind : BitVec 3) (h : Byte) : ClsOut :=
  if validBin s then
    { kind := kind, row := row, ch := chOf h, prox := proxOf s.params kind h, sec := secOf s.params h, hdr := h }
  else ClsOut.inactive

/-- The header `d0 = buf[0]` (R101). -/
def header (s : State) : Byte := Memory.read s.buf 0

/-- The classifier's outputs in a state: `classify(d0)` (R101, R111). -/
def classifier (s : State) : ClsOut :=
  clsOutputs s (classify (header s)).1 (classify (header s)).2 (header s)

end Sys2Proof.Machine
end

