-- ==== Sys2Proof/Machine/Operands.lean ====
section
/-! DEFINITION. The field functions of 42_fields.md, transcribed on exact integers (R14, R117 to R130), and the value
each register reads (R33 to R42, R137 to R161). -/

namespace Sys2Proof.Machine

/-! Placing an integer in a register (R14). -/

/-- `zext_32(v)` of a non-negative v below 2^32. -/
def zext32 (v : Nat) : Word := BitVec.ofNat 32 v

/-- `sext_32(v)` of a v in [-2^31, 2^31). -/
def sext32 (v : Int) : Word := BitVec.ofInt 32 v

/-- A 1-bit value as a word. -/
def bit32 (b : Bool) : Word := (BitVec.ofBool b).setWidth 32

/-- Byte lane k of a register word: bits [8k+7:8k], the little-endian lane order (R51). -/
def byteLane (w : Word) (k : Fin 4) : Byte := w.extractLsb' (8 * k.val) 8

/-! The fields, as functions of the bytes' values. -/

/-- POS_X (R118). -/
def posX (d1 d2 d3 : Nat) : Nat := (d1 &&& 0x7f) <<< 9 ||| (d2 &&& 0x7f) <<< 2 ||| (d3 &&& 0x60) >>> 5

/-- POS_Y (R119). -/
def posY (d3 d4 d5 : Nat) : Nat := (d3 &&& 0x1f) <<< 11 ||| (d4 &&& 0x7f) <<< 4 ||| (d5 &&& 0x78) >>> 3

/-- PRESSURE, also the absolute wheel (R121). -/
def pressure (d5 d6 : Nat) : Nat := (d5 &&& 0x07) <<< 7 ||| (d6 &&& 0x7f)

/-- `tilt7(v)` (R122). -/
def tilt7 (v : Nat) : Int :=
  if v &&& 0x40 ≠ 0 then ((v &&& 0x3F : Nat) : Int) - 64 else ((v &&& 0x3F : Nat) : Int)

/-- The biased tilt, an unsigned value (R124). -/
def tiltBiased (v : Nat) : Nat := (tilt7 v + 64).toNat

/-- THROTTLE (R125). -/
def throttle (d5 d6 d8 : Nat) : Int :=
  if d8 &&& 0x08 ≠ 0 then -(pressure d5 d6 : Int) else (pressure d5 d6 : Int)

/-- REL_WHEEL (R126). -/
def relWheel (d8 : Nat) : Int := -((d8 &&& 1 : Nat) : Int) + (((d8 &&& 2) >>> 1 : Nat) : Int)

/-- ROT_RAW (R127). -/
def rotRaw (d6 d7 : Nat) : Nat := (d6 &&& 0x0f) <<< 7 ||| (d7 &&& 0x7f)

/-- ROT_ANGLE of a raw value (R128). -/
def rotAngle (raw : Nat) : Int := if raw < 900 then -(raw : Int) else 1799 - (raw : Int)

/-- TOOL_ID (R129). -/
def toolId (d1 d2 : Nat) : Nat := (d1 &&& 0x7f) <<< 5 ||| (d2 &&& 0x7c) >>> 2

/-- SERIAL (R130). -/
def serial (d2 d3 d4 d5 d6 d7 : Nat) : Nat :=
  (d2 &&& 0x03) <<< 30 ||| (d3 &&& 0x7f) <<< 23 ||| (d4 &&& 0x7f) <<< 16
    ||| (d5 &&& 0x7f) <<< 9 ||| (d6 &&& 0x7f) <<< 2 ||| (d7 &&& 0x60) >>> 5

/-! The registers. -/

/-- A packet or field register reads its value while VALID_BIN = 1 and 0 otherwise (R29, R40, R117). -/
def gated (s : State) (v : Word) : Word := if validBin s then v else 0

/-- PARAM (R33, R137). -/
def readParam (s : State) : Word :=
  zext32 s.params.bufCap ||| zext32 binLen <<< 8 ||| zext32 s.params.proxBit <<< 16
    ||| s.params.secMask.setWidth 32 <<< 24

/-- STATUS (R34, R138). FLEN and IDX have 8 bits each. -/
def readStatus (s : State) : Word :=
  bit32 s.pend ||| bit32 s.fkind <<< 1 ||| (mode s).code.setWidth 32 <<< 2 ||| bit32 (inReady s) <<< 4
    ||| (BitVec.ofNat 8 s.flen).setWidth 32 <<< 8 ||| (BitVec.ofNat 8 s.idx).setWidth 32 <<< 16

/-- CTRL holds no state (R35, R139). -/
def readCtrl : Word := 0

/-- EVENTS (R36, R140). -/
def readEvents (s : State) : Word := bit32 s.evOvf ||| bit32 s.evRsy <<< 1

/-- IRQ_EN (R37, R144). -/
def readIrqEn (s : State) : Word := s.ie.setWidth 32

/-- IRQ_STATUS (R38, R145). -/
def readIrqStatus (s : State) : Word := bit32 (irqFrm s) ||| bit32 (irqOvf s) <<< 1 ||| bit32 (irqRsy s) <<< 2

/-- The classifier's outputs as PKT lays them out (R39, R146). -/
def pktWord (c : ClsOut) : Word :=
  c.kind.setWidth 32 ||| c.row.setWidth 32 <<< 3 ||| bit32 c.ch <<< 6 ||| bit32 c.prox <<< 7 ||| bit32 c.sec <<< 8
    ||| c.hdr.setWidth 32 <<< 16

/-- PKT (R39, R146): KIND = NONE and ROW = 7 where no binary frame is pending. -/
def readPkt (s : State) : Word := if validBin s then pktWord (classifier s) else 0x00000038

/-- The field registers (R40, R147 to R159). -/
def readPosX (s : State) : Word := gated s (zext32 (posX (d s 1) (d s 2) (d s 3)))
def readPosY (s : State) : Word := gated s (zext32 (posY (d s 3) (d s 4) (d s 5)))
def readPressure (s : State) : Word := gated s (zext32 (pressure (d s 5) (d s 6)))
def readTiltX (s : State) : Word := gated s (sext32 (tilt7 (d s 7)))
def readTiltY (s : State) : Word := gated s (sext32 (tilt7 (d s 8)))
def readTiltXb (s : State) : Word := gated s (zext32 (tiltBiased (d s 7)))
def readTiltYb (s : State) : Word := gated s (zext32 (tiltBiased (d s 8)))
def readThrottle (s : State) : Word := gated s (sext32 (throttle (d s 5) (d s 6) (d s 8)))
def readRelWheel (s : State) : Word := gated s (sext32 (relWheel (d s 8)))
def readRotRaw (s : State) : Word := gated s (zext32 (rotRaw (d s 6) (d s 7)))
def readRotAngle (s : State) : Word := gated s (sext32 (rotAngle (rotRaw (d s 6) (d s 7))))
def readToolId (s : State) : Word := gated s (zext32 (toolId (d s 1) (d s 2)))
def readSerial (s : State) : Word := gated s (zext32 (serial (d s 2) (d s 3) (d s 4) (d s 5) (d s 6) (d s 7)))

/-- CLS_ROWr: mask, expected value and kind of row r (R41, R160). -/
def readClsRow (r : Nat) : Word :=
  (clsRow r).mask.setWidth 32 ||| (clsRow r).expected.setWidth 32 <<< 8 ||| (clsRow r).kind.setWidth 32 <<< 16

/-- FRAME[i]: buf[i] at all times, and 0 for i ≥ BUF_CAP (R42, R161). -/
def readFrame (i : BitVec 6) (s : State) : Word :=
  if i.toNat < s.params.bufCap then (Memory.read s.buf i.toNat).setWidth 32 else 0

/-- A reserved word offset reads 0 (R43, R162). -/
def readReserved : Word := 0

end Sys2Proof.Machine
end

