-- ==== Sys2Proof/Machine/BadAccess.lean ====
section
/-! DEFINITION. BADACC, any bus access that is not 32 bits wide and aligned (R52, R164). -/

namespace Sys2Proof.Machine

/-- BADACC (R164): it takes the BusError response of R170. -/
def execBadacc (s : State) : Result := .next (raiseBusError s)

end Sys2Proof.Machine
end

