-- ==== Sys2Proof/Machine/Framer.lean ====
section
/-! DEFINITION. PUSH: one byte offered on the ingress port (40_framer.md). -/

namespace Sys2Proof.Machine

/-- PUSH b (R85). The byte is accepted where PEND = 0; while PEND = 1 it is not, nothing changes, and the byte stays
with the producer (R28, R92; a line of text then stays where it is, R77, log 4). An index out of range is refused
(I14); no reachable state has one. -/
def execPush (b : Byte) (s : State) : Result :=
  if s.pend then .next (handshake false s)
  else
    match framerPush b s with
    | some t => .next (handshake true t)
    | none => .refused (.bufferIndex s.idx)

end Sys2Proof.Machine
end

