-- ==== Sys2Proof/Machine/Header.lean ====
section
/-! DEFINITION. The rows of the classification table: what the classifier puts out for a header of the row, while a binary frame is
pending (R101, R103 to R114). The block gives these values to firmware in PKT (R146); observing them is log 7. -/

namespace Sys2Proof.Machine

/-- PKT ROW0 DEVICE_ID (R103). -/
def execPktRow0DeviceId (x1 ch : BitVec 1) (s : State) : Result := .next (latchCls (clsOutputs s 0 kindDeviceId (headerRow0 x1 ch)) s)

/-- PKT ROW1 OUT_OF_PROX (R104). -/
def execPktRow1OutOfProx (ch : BitVec 1) (s : State) : Result := .next (latchCls (clsOutputs s 1 kindOutOfProx (headerRow1 ch)) s)

/-- PKT ROW2 STYLUS (R105). -/
def execPktRow2Stylus (x6 : BitVec 1) (x21 : BitVec 2) (ch : BitVec 1) (s : State) : Result := .next (latchCls (clsOutputs s 2 kindStylus (headerRow2 x6 x21 ch)) s)

/-- PKT ROW3 STYLUS (R106). -/
def execPktRow3Stylus (x6 ch : BitVec 1) (s : State) : Result := .next (latchCls (clsOutputs s 3 kindStylus (headerRow3 x6 ch)) s)

/-- PKT ROW4 CURSOR1 (R107). -/
def execPktRow4Cursor1 (x6 ch : BitVec 1) (s : State) : Result := .next (latchCls (clsOutputs s 4 kindCursor1 (headerRow4 x6 ch)) s)

/-- PKT ROW5 CURSOR1 (R108). -/
def execPktRow5Cursor1 (x6 ch : BitVec 1) (s : State) : Result := .next (latchCls (clsOutputs s 5 kindCursor1 (headerRow5 x6 ch)) s)

/-- PKT ROW6 CURSOR2 (R109). -/
def execPktRow6Cursor2 (x6 ch : BitVec 1) (s : State) : Result := .next (latchCls (clsOutputs s 6 kindCursor2 (headerRow6 x6 ch)) s)

/-- PKT UNKNOWN (R111). -/
def execPktUnknown (mid : BitVec 6) (ch : BitVec 1) (s : State) : Result := .next (latchCls (clsOutputs s 7 kindUnknown (unknownHeader mid ch)) s)

end Sys2Proof.Machine
end

