-- ==== Sys2Proof/Machine/ReadControl.lean ====
section
/-! DEFINITION. READ of the control and status registers (R137 to R140, R144, R145). -/

namespace Sys2Proof.Machine

/-- RD PARAM (R137). -/
def execRdParam (s : State) : Result := readReply (readParam s) s

/-- RD STATUS (R138). -/
def execRdStatus (s : State) : Result := readReply (readStatus s) s

/-- RD CTRL (R139). -/
def execRdCtrl (s : State) : Result := readReply readCtrl s

/-- RD EVENTS (R140). -/
def execRdEvents (s : State) : Result := readReply (readEvents s) s

/-- RD IRQ_EN (R144). -/
def execRdIrqEn (s : State) : Result := readReply (readIrqEn s) s

/-- RD IRQ_STATUS (R145). -/
def execRdIrqStatus (s : State) : Result := readReply (readIrqStatus s) s

end Sys2Proof.Machine
end

