-- ==== Sys2Proof/Machine/ReadFields.lean ====
section
/-! DEFINITION. READ of PKT and of the 13 field registers (R146 to R159). -/

namespace Sys2Proof.Machine

/-- RD PKT (R146). -/
def execRdPkt (s : State) : Result := readReply (readPkt s) s

/-- RD POS_X (R147). -/
def execRdPosX (s : State) : Result := readReply (readPosX s) s

/-- RD POS_Y (R148). -/
def execRdPosY (s : State) : Result := readReply (readPosY s) s

/-- RD PRESSURE (R149). -/
def execRdPressure (s : State) : Result := readReply (readPressure s) s

/-- RD TILT_X (R150). -/
def execRdTiltX (s : State) : Result := readReply (readTiltX s) s

/-- RD TILT_Y (R151). -/
def execRdTiltY (s : State) : Result := readReply (readTiltY s) s

/-- RD TILT_XB (R152). -/
def execRdTiltXb (s : State) : Result := readReply (readTiltXb s) s

/-- RD TILT_YB (R153). -/
def execRdTiltYb (s : State) : Result := readReply (readTiltYb s) s

/-- RD THROTTLE (R154). -/
def execRdThrottle (s : State) : Result := readReply (readThrottle s) s

/-- RD REL_WHEEL (R155). -/
def execRdRelWheel (s : State) : Result := readReply (readRelWheel s) s

/-- RD ROT_RAW (R156). -/
def execRdRotRaw (s : State) : Result := readReply (readRotRaw s) s

/-- RD ROT_ANGLE (R157). -/
def execRdRotAngle (s : State) : Result := readReply (readRotAngle s) s

/-- RD TOOL_ID (R158). -/
def execRdToolId (s : State) : Result := readReply (readToolId s) s

/-- RD SERIAL (R159). -/
def execRdSerial (s : State) : Result := readReply (readSerial s) s

end Sys2Proof.Machine
end

