-- ==== Sys2Proof/Machine/ReadReserved.lean ====
section
/-! DEFINITION. READ of the reserved word offsets: each reads 0 and is no error (R162). -/

namespace Sys2Proof.Machine

/-- RD RSVD@0x018 (R162). -/
def execRdRsvd018 (s : State) : Result := readReply readReserved s

/-- RD RSVD@0x01C (R162). -/
def execRdRsvd01C (s : State) : Result := readReply readReserved s

/-- RD RSVD@0x058 (R162). -/
def execRdRsvd058 (s : State) : Result := readReply readReserved s

/-- RD RSVD@0x05C (R162). -/
def execRdRsvd05C (s : State) : Result := readReply readReserved s

/-- RD RSVD@0x060 (R162). -/
def execRdRsvd060 (s : State) : Result := readReply readReserved s

/-- RD RSVD@0x064 (R162). -/
def execRdRsvd064 (s : State) : Result := readReply readReserved s

/-- RD RSVD@0x068 (R162). -/
def execRdRsvd068 (s : State) : Result := readReply readReserved s

/-- RD RSVD@0x06C (R162). -/
def execRdRsvd06C (s : State) : Result := readReply readReserved s

/-- RD RSVD@0x070 (R162). -/
def execRdRsvd070 (s : State) : Result := readReply readReserved s

/-- RD RSVD@0x074 (R162). -/
def execRdRsvd074 (s : State) : Result := readReply readReserved s

/-- RD RSVD@0x078 (R162). -/
def execRdRsvd078 (s : State) : Result := readReply readReserved s

/-- RD RSVD@0x07C (R162). -/
def execRdRsvd07C (s : State) : Result := readReply readReserved s

/-- RD RSVD@0x09C (R162). -/
def execRdRsvd09C (s : State) : Result := readReply readReserved s

/-- RD RSVD@0x0A0 (R162). -/
def execRdRsvd0A0 (s : State) : Result := readReply readReserved s

/-- RD RSVD@0x0A4 (R162). -/
def execRdRsvd0A4 (s : State) : Result := readReply readReserved s

/-- RD RSVD@0x0A8 (R162). -/
def execRdRsvd0A8 (s : State) : Result := readReply readReserved s

/-- RD RSVD@0x0AC (R162). -/
def execRdRsvd0AC (s : State) : Result := readReply readReserved s

/-- RD RSVD@0x0B0 (R162). -/
def execRdRsvd0B0 (s : State) : Result := readReply readReserved s

/-- RD RSVD@0x0B4 (R162). -/
def execRdRsvd0B4 (s : State) : Result := readReply readReserved s

/-- RD RSVD@0x0B8 (R162). -/
def execRdRsvd0B8 (s : State) : Result := readReply readReserved s

/-- RD RSVD@0x0BC (R162). -/
def execRdRsvd0BC (s : State) : Result := readReply readReserved s

/-- RD RSVD@0x0C0 (R162). -/
def execRdRsvd0C0 (s : State) : Result := readReply readReserved s

/-- RD RSVD@0x0C4 (R162). -/
def execRdRsvd0C4 (s : State) : Result := readReply readReserved s

/-- RD RSVD@0x0C8 (R162). -/
def execRdRsvd0C8 (s : State) : Result := readReply readReserved s

/-- RD RSVD@0x0CC (R162). -/
def execRdRsvd0CC (s : State) : Result := readReply readReserved s

/-- RD RSVD@0x0D0 (R162). -/
def execRdRsvd0D0 (s : State) : Result := readReply readReserved s

/-- RD RSVD@0x0D4 (R162). -/
def execRdRsvd0D4 (s : State) : Result := readReply readReserved s

/-- RD RSVD@0x0D8 (R162). -/
def execRdRsvd0D8 (s : State) : Result := readReply readReserved s

/-- RD RSVD@0x0DC (R162). -/
def execRdRsvd0DC (s : State) : Result := readReply readReserved s

/-- RD RSVD@0x0E0 (R162). -/
def execRdRsvd0E0 (s : State) : Result := readReply readReserved s

/-- RD RSVD@0x0E4 (R162). -/
def execRdRsvd0E4 (s : State) : Result := readReply readReserved s

/-- RD RSVD@0x0E8 (R162). -/
def execRdRsvd0E8 (s : State) : Result := readReply readReserved s

/-- RD RSVD@0x0EC (R162). -/
def execRdRsvd0EC (s : State) : Result := readReply readReserved s

/-- RD RSVD@0x0F0 (R162). -/
def execRdRsvd0F0 (s : State) : Result := readReply readReserved s

/-- RD RSVD@0x0F4 (R162). -/
def execRdRsvd0F4 (s : State) : Result := readReply readReserved s

/-- RD RSVD@0x0F8 (R162). -/
def execRdRsvd0F8 (s : State) : Result := readReply readReserved s

/-- RD RSVD@0x0FC (R162). -/
def execRdRsvd0FC (s : State) : Result := readReply readReserved s

end Sys2Proof.Machine
end

