-- ==== Sys2Proof/Machine/ReadTable.lean ====
section
/-! DEFINITION. READ of the classification table and of the frame window (R160, R161). -/

namespace Sys2Proof.Machine

/-- RD CLS_ROW0 (R160). -/
def execRdClsRow0 (s : State) : Result := readReply (readClsRow 0) s

/-- RD CLS_ROW1 (R160). -/
def execRdClsRow1 (s : State) : Result := readReply (readClsRow 1) s

/-- RD CLS_ROW2 (R160). -/
def execRdClsRow2 (s : State) : Result := readReply (readClsRow 2) s

/-- RD CLS_ROW3 (R160). -/
def execRdClsRow3 (s : State) : Result := readReply (readClsRow 3) s

/-- RD CLS_ROW4 (R160). -/
def execRdClsRow4 (s : State) : Result := readReply (readClsRow 4) s

/-- RD CLS_ROW5 (R160). -/
def execRdClsRow5 (s : State) : Result := readReply (readClsRow 5) s

/-- RD CLS_ROW6 (R160). -/
def execRdClsRow6 (s : State) : Result := readReply (readClsRow 6) s

/-- RD FRAME[i] (R161). -/
def execRdFrame (k : BitVec 6) (s : State) : Result := readReply (readFrame k s) s

end Sys2Proof.Machine
end

