-- ==== Sys2Proof/Machine/WriteControl.lean ====
section
/-! DEFINITION. WRITE of CTRL, EVENTS and IRQ_EN, the only writes with an effect (R141 to R143, R54). -/

namespace Sys2Proof.Machine

/-- WR CTRL, v (R141). -/
def execWrCtrl (v : Word) (s : State) : Result := writeReply (writeCtrl v s)

/-- WR EVENTS, v (R142). -/
def execWrEvents (v : Word) (s : State) : Result := writeReply (writeEvents v s)

/-- WR IRQ_EN, v (R143). -/
def execWrIrqEn (v : Word) (s : State) : Result := writeReply (writeIrqEn v s)

end Sys2Proof.Machine
end

