-- ==== Sys2Proof/Machine/WriteFrame.lean ====
section
/-! DEFINITION. WRITE of the frame window: ignored, the buffer does not change (R19, R163). -/

namespace Sys2Proof.Machine

/-- WR FRAME[0], v: ignored (R163). -/
def execWrFrame0 (v : Word) (s : State) : Result := writeIgnored v s

/-- WR FRAME[1], v: ignored (R163). -/
def execWrFrame1 (v : Word) (s : State) : Result := writeIgnored v s

/-- WR FRAME[2], v: ignored (R163). -/
def execWrFrame2 (v : Word) (s : State) : Result := writeIgnored v s

/-- WR FRAME[3], v: ignored (R163). -/
def execWrFrame3 (v : Word) (s : State) : Result := writeIgnored v s

/-- WR FRAME[4], v: ignored (R163). -/
def execWrFrame4 (v : Word) (s : State) : Result := writeIgnored v s

/-- WR FRAME[5], v: ignored (R163). -/
def execWrFrame5 (v : Word) (s : State) : Result := writeIgnored v s

/-- WR FRAME[6], v: ignored (R163). -/
def execWrFrame6 (v : Word) (s : State) : Result := writeIgnored v s

/-- WR FRAME[7], v: ignored (R163). -/
def execWrFrame7 (v : Word) (s : State) : Result := writeIgnored v s

/-- WR FRAME[8], v: ignored (R163). -/
def execWrFrame8 (v : Word) (s : State) : Result := writeIgnored v s

/-- WR FRAME[9], v: ignored (R163). -/
def execWrFrame9 (v : Word) (s : State) : Result := writeIgnored v s

/-- WR FRAME[10], v: ignored (R163). -/
def execWrFrame10 (v : Word) (s : State) : Result := writeIgnored v s

/-- WR FRAME[11], v: ignored (R163). -/
def execWrFrame11 (v : Word) (s : State) : Result := writeIgnored v s

/-- WR FRAME[12], v: ignored (R163). -/
def execWrFrame12 (v : Word) (s : State) : Result := writeIgnored v s

/-- WR FRAME[13], v: ignored (R163). -/
def execWrFrame13 (v : Word) (s : State) : Result := writeIgnored v s

/-- WR FRAME[14], v: ignored (R163). -/
def execWrFrame14 (v : Word) (s : State) : Result := writeIgnored v s

/-- WR FRAME[15], v: ignored (R163). -/
def execWrFrame15 (v : Word) (s : State) : Result := writeIgnored v s

/-- WR FRAME[16], v: ignored (R163). -/
def execWrFrame16 (v : Word) (s : State) : Result := writeIgnored v s

/-- WR FRAME[17], v: ignored (R163). -/
def execWrFrame17 (v : Word) (s : State) : Result := writeIgnored v s

/-- WR FRAME[18], v: ignored (R163). -/
def execWrFrame18 (v : Word) (s : State) : Result := writeIgnored v s

/-- WR FRAME[19], v: ignored (R163). -/
def execWrFrame19 (v : Word) (s : State) : Result := writeIgnored v s

/-- WR FRAME[20], v: ignored (R163). -/
def execWrFrame20 (v : Word) (s : State) : Result := writeIgnored v s

/-- WR FRAME[21], v: ignored (R163). -/
def execWrFrame21 (v : Word) (s : State) : Result := writeIgnored v s

/-- WR FRAME[22], v: ignored (R163). -/
def execWrFrame22 (v : Word) (s : State) : Result := writeIgnored v s

/-- WR FRAME[23], v: ignored (R163). -/
def execWrFrame23 (v : Word) (s : State) : Result := writeIgnored v s

/-- WR FRAME[24], v: ignored (R163). -/
def execWrFrame24 (v : Word) (s : State) : Result := writeIgnored v s

/-- WR FRAME[25], v: ignored (R163). -/
def execWrFrame25 (v : Word) (s : State) : Result := writeIgnored v s

/-- WR FRAME[26], v: ignored (R163). -/
def execWrFrame26 (v : Word) (s : State) : Result := writeIgnored v s

/-- WR FRAME[27], v: ignored (R163). -/
def execWrFrame27 (v : Word) (s : State) : Result := writeIgnored v s

/-- WR FRAME[28], v: ignored (R163). -/
def execWrFrame28 (v : Word) (s : State) : Result := writeIgnored v s

/-- WR FRAME[29], v: ignored (R163). -/
def execWrFrame29 (v : Word) (s : State) : Result := writeIgnored v s

/-- WR FRAME[30], v: ignored (R163). -/
def execWrFrame30 (v : Word) (s : State) : Result := writeIgnored v s

/-- WR FRAME[31], v: ignored (R163). -/
def execWrFrame31 (v : Word) (s : State) : Result := writeIgnored v s

/-- WR FRAME[32], v: ignored (R163). -/
def execWrFrame32 (v : Word) (s : State) : Result := writeIgnored v s

/-- WR FRAME[33], v: ignored (R163). -/
def execWrFrame33 (v : Word) (s : State) : Result := writeIgnored v s

/-- WR FRAME[34], v: ignored (R163). -/
def execWrFrame34 (v : Word) (s : State) : Result := writeIgnored v s

/-- WR FRAME[35], v: ignored (R163). -/
def execWrFrame35 (v : Word) (s : State) : Result := writeIgnored v s

/-- WR FRAME[36], v: ignored (R163). -/
def execWrFrame36 (v : Word) (s : State) : Result := writeIgnored v s

/-- WR FRAME[37], v: ignored (R163). -/
def execWrFrame37 (v : Word) (s : State) : Result := writeIgnored v s

/-- WR FRAME[38], v: ignored (R163). -/
def execWrFrame38 (v : Word) (s : State) : Result := writeIgnored v s

/-- WR FRAME[39], v: ignored (R163). -/
def execWrFrame39 (v : Word) (s : State) : Result := writeIgnored v s

/-- WR FRAME[40], v: ignored (R163). -/
def execWrFrame40 (v : Word) (s : State) : Result := writeIgnored v s

/-- WR FRAME[41], v: ignored (R163). -/
def execWrFrame41 (v : Word) (s : State) : Result := writeIgnored v s

/-- WR FRAME[42], v: ignored (R163). -/
def execWrFrame42 (v : Word) (s : State) : Result := writeIgnored v s

/-- WR FRAME[43], v: ignored (R163). -/
def execWrFrame43 (v : Word) (s : State) : Result := writeIgnored v s

/-- WR FRAME[44], v: ignored (R163). -/
def execWrFrame44 (v : Word) (s : State) : Result := writeIgnored v s

/-- WR FRAME[45], v: ignored (R163). -/
def execWrFrame45 (v : Word) (s : State) : Result := writeIgnored v s

/-- WR FRAME[46], v: ignored (R163). -/
def execWrFrame46 (v : Word) (s : State) : Result := writeIgnored v s

/-- WR FRAME[47], v: ignored (R163). -/
def execWrFrame47 (v : Word) (s : State) : Result := writeIgnored v s

/-- WR FRAME[48], v: ignored (R163). -/
def execWrFrame48 (v : Word) (s : State) : Result := writeIgnored v s

/-- WR FRAME[49], v: ignored (R163). -/
def execWrFrame49 (v : Word) (s : State) : Result := writeIgnored v s

/-- WR FRAME[50], v: ignored (R163). -/
def execWrFrame50 (v : Word) (s : State) : Result := writeIgnored v s

/-- WR FRAME[51], v: ignored (R163). -/
def execWrFrame51 (v : Word) (s : State) : Result := writeIgnored v s

/-- WR FRAME[52], v: ignored (R163). -/
def execWrFrame52 (v : Word) (s : State) : Result := writeIgnored v s

/-- WR FRAME[53], v: ignored (R163). -/
def execWrFrame53 (v : Word) (s : State) : Result := writeIgnored v s

/-- WR FRAME[54], v: ignored (R163). -/
def execWrFrame54 (v : Word) (s : State) : Result := writeIgnored v s

/-- WR FRAME[55], v: ignored (R163). -/
def execWrFrame55 (v : Word) (s : State) : Result := writeIgnored v s

/-- WR FRAME[56], v: ignored (R163). -/
def execWrFrame56 (v : Word) (s : State) : Result := writeIgnored v s

/-- WR FRAME[57], v: ignored (R163). -/
def execWrFrame57 (v : Word) (s : State) : Result := writeIgnored v s

/-- WR FRAME[58], v: ignored (R163). -/
def execWrFrame58 (v : Word) (s : State) : Result := writeIgnored v s

/-- WR FRAME[59], v: ignored (R163). -/
def execWrFrame59 (v : Word) (s : State) : Result := writeIgnored v s

/-- WR FRAME[60], v: ignored (R163). -/
def execWrFrame60 (v : Word) (s : State) : Result := writeIgnored v s

/-- WR FRAME[61], v: ignored (R163). -/
def execWrFrame61 (v : Word) (s : State) : Result := writeIgnored v s

/-- WR FRAME[62], v: ignored (R163). -/
def execWrFrame62 (v : Word) (s : State) : Result := writeIgnored v s

/-- WR FRAME[63], v: ignored (R163). -/
def execWrFrame63 (v : Word) (s : State) : Result := writeIgnored v s

end Sys2Proof.Machine
end

