-- ==== Sys2Proof/Machine/WriteReadOnly.lean ====
section
/-! DEFINITION. WRITE of the named read-only registers: ignored and no error (R43, R163). -/

namespace Sys2Proof.Machine

/-- WR PARAM, v: ignored (R163). -/
def execWrParam (v : Word) (s : State) : Result := writeIgnored v s

/-- WR STATUS, v: ignored (R163). -/
def execWrStatus (v : Word) (s : State) : Result := writeIgnored v s

/-- WR IRQ_STATUS, v: ignored (R163). -/
def execWrIrqStatus (v : Word) (s : State) : Result := writeIgnored v s

/-- WR PKT, v: ignored (R163). -/
def execWrPkt (v : Word) (s : State) : Result := writeIgnored v s

/-- WR POS_X, v: ignored (R163). -/
def execWrPosX (v : Word) (s : State) : Result := writeIgnored v s

/-- WR POS_Y, v: ignored (R163). -/
def execWrPosY (v : Word) (s : State) : Result := writeIgnored v s

/-- WR PRESSURE, v: ignored (R163). -/
def execWrPressure (v : Word) (s : State) : Result := writeIgnored v s

/-- WR TILT_X, v: ignored (R163). -/
def execWrTiltX (v : Word) (s : State) : Result := writeIgnored v s

/-- WR TILT_Y, v: ignored (R163). -/
def execWrTiltY (v : Word) (s : State) : Result := writeIgnored v s

/-- WR TILT_XB, v: ignored (R163). -/
def execWrTiltXb (v : Word) (s : State) : Result := writeIgnored v s

/-- WR TILT_YB, v: ignored (R163). -/
def execWrTiltYb (v : Word) (s : State) : Result := writeIgnored v s

/-- WR THROTTLE, v: ignored (R163). -/
def execWrThrottle (v : Word) (s : State) : Result := writeIgnored v s

/-- WR REL_WHEEL, v: ignored (R163). -/
def execWrRelWheel (v : Word) (s : State) : Result := writeIgnored v s

/-- WR ROT_RAW, v: ignored (R163). -/
def execWrRotRaw (v : Word) (s : State) : Result := writeIgnored v s

/-- WR ROT_ANGLE, v: ignored (R163). -/
def execWrRotAngle (v : Word) (s : State) : Result := writeIgnored v s

/-- WR TOOL_ID, v: ignored (R163). -/
def execWrToolId (v : Word) (s : State) : Result := writeIgnored v s

/-- WR SERIAL, v: ignored (R163). -/
def execWrSerial (v : Word) (s : State) : Result := writeIgnored v s

/-- WR CLS_ROW0, v: ignored (R163). -/
def execWrClsRow0 (v : Word) (s : State) : Result := writeIgnored v s

/-- WR CLS_ROW1, v: ignored (R163). -/
def execWrClsRow1 (v : Word) (s : State) : Result := writeIgnored v s

/-- WR CLS_ROW2, v: ignored (R163). -/
def execWrClsRow2 (v : Word) (s : State) : Result := writeIgnored v s

/-- WR CLS_ROW3, v: ignored (R163). -/
def execWrClsRow3 (v : Word) (s : State) : Result := writeIgnored v s

/-- WR CLS_ROW4, v: ignored (R163). -/
def execWrClsRow4 (v : Word) (s : State) : Result := writeIgnored v s

/-- WR CLS_ROW5, v: ignored (R163). -/
def execWrClsRow5 (v : Word) (s : State) : Result := writeIgnored v s

/-- WR CLS_ROW6, v: ignored (R163). -/
def execWrClsRow6 (v : Word) (s : State) : Result := writeIgnored v s

end Sys2Proof.Machine
end

