-- ==== Sys2Proof/Machine/WriteReserved.lean ====
section
/-! DEFINITION. WRITE of the reserved word offsets: ignored and no error (R43, R163). -/

namespace Sys2Proof.Machine

/-- WR RSVD@0x018, v: ignored (R163). -/
def execWrRsvd018 (v : Word) (s : State) : Result := writeIgnored v s

/-- WR RSVD@0x01C, v: ignored (R163). -/
def execWrRsvd01C (v : Word) (s : State) : Result := writeIgnored v s

/-- WR RSVD@0x058, v: ignored (R163). -/
def execWrRsvd058 (v : Word) (s : State) : Result := writeIgnored v s

/-- WR RSVD@0x05C, v: ignored (R163). -/
def execWrRsvd05C (v : Word) (s : State) : Result := writeIgnored v s

/-- WR RSVD@0x060, v: ignored (R163). -/
def execWrRsvd060 (v : Word) (s : State) : Result := writeIgnored v s

/-- WR RSVD@0x064, v: ignored (R163). -/
def execWrRsvd064 (v : Word) (s : State) : Result := writeIgnored v s

/-- WR RSVD@0x068, v: ignored (R163). -/
def execWrRsvd068 (v : Word) (s : State) : Result := writeIgnored v s

/-- WR RSVD@0x06C, v: ignored (R163). -/
def execWrRsvd06C (v : Word) (s : State) : Result := writeIgnored v s

/-- WR RSVD@0x070, v: ignored (R163). -/
def execWrRsvd070 (v : Word) (s : State) : Result := writeIgnored v s

/-- WR RSVD@0x074, v: ignored (R163). -/
def execWrRsvd074 (v : Word) (s : State) : Result := writeIgnored v s

/-- WR RSVD@0x078, v: ignored (R163). -/
def execWrRsvd078 (v : Word) (s : State) : Result := writeIgnored v s

/-- WR RSVD@0x07C, v: ignored (R163). -/
def execWrRsvd07C (v : Word) (s : State) : Result := writeIgnored v s

/-- WR RSVD@0x09C, v: ignored (R163). -/
def execWrRsvd09C (v : Word) (s : State) : Result := writeIgnored v s

/-- WR RSVD@0x0A0, v: ignored (R163). -/
def execWrRsvd0A0 (v : Word) (s : State) : Result := writeIgnored v s

/-- WR RSVD@0x0A4, v: ignored (R163). -/
def execWrRsvd0A4 (v : Word) (s : State) : Result := writeIgnored v s

/-- WR RSVD@0x0A8, v: ignored (R163). -/
def execWrRsvd0A8 (v : Word) (s : State) : Result := writeIgnored v s

/-- WR RSVD@0x0AC, v: ignored (R163). -/
def execWrRsvd0AC (v : Word) (s : State) : Result := writeIgnored v s

/-- WR RSVD@0x0B0, v: ignored (R163). -/
def execWrRsvd0B0 (v : Word) (s : State) : Result := writeIgnored v s

/-- WR RSVD@0x0B4, v: ignored (R163). -/
def execWrRsvd0B4 (v : Word) (s : State) : Result := writeIgnored v s

/-- WR RSVD@0x0B8, v: ignored (R163). -/
def execWrRsvd0B8 (v : Word) (s : State) : Result := writeIgnored v s

/-- WR RSVD@0x0BC, v: ignored (R163). -/
def execWrRsvd0BC (v : Word) (s : State) : Result := writeIgnored v s

/-- WR RSVD@0x0C0, v: ignored (R163). -/
def execWrRsvd0C0 (v : Word) (s : State) : Result := writeIgnored v s

/-- WR RSVD@0x0C4, v: ignored (R163). -/
def execWrRsvd0C4 (v : Word) (s : State) : Result := writeIgnored v s

/-- WR RSVD@0x0C8, v: ignored (R163). -/
def execWrRsvd0C8 (v : Word) (s : State) : Result := writeIgnored v s

/-- WR RSVD@0x0CC, v: ignored (R163). -/
def execWrRsvd0CC (v : Word) (s : State) : Result := writeIgnored v s

/-- WR RSVD@0x0D0, v: ignored (R163). -/
def execWrRsvd0D0 (v : Word) (s : State) : Result := writeIgnored v s

/-- WR RSVD@0x0D4, v: ignored (R163). -/
def execWrRsvd0D4 (v : Word) (s : State) : Result := writeIgnored v s

/-- WR RSVD@0x0D8, v: ignored (R163). -/
def execWrRsvd0D8 (v : Word) (s : State) : Result := writeIgnored v s

/-- WR RSVD@0x0DC, v: ignored (R163). -/
def execWrRsvd0DC (v : Word) (s : State) : Result := writeIgnored v s

/-- WR RSVD@0x0E0, v: ignored (R163). -/
def execWrRsvd0E0 (v : Word) (s : State) : Result := writeIgnored v s

/-- WR RSVD@0x0E4, v: ignored (R163). -/
def execWrRsvd0E4 (v : Word) (s : State) : Result := writeIgnored v s

/-- WR RSVD@0x0E8, v: ignored (R163). -/
def execWrRsvd0E8 (v : Word) (s : State) : Result := writeIgnored v s

/-- WR RSVD@0x0EC, v: ignored (R163). -/
def execWrRsvd0EC (v : Word) (s : State) : Result := writeIgnored v s

/-- WR RSVD@0x0F0, v: ignored (R163). -/
def execWrRsvd0F0 (v : Word) (s : State) : Result := writeIgnored v s

/-- WR RSVD@0x0F4, v: ignored (R163). -/
def execWrRsvd0F4 (v : Word) (s : State) : Result := writeIgnored v s

/-- WR RSVD@0x0F8, v: ignored (R163). -/
def execWrRsvd0F8 (v : Word) (s : State) : Result := writeIgnored v s

/-- WR RSVD@0x0FC, v: ignored (R163). -/
def execWrRsvd0FC (v : Word) (s : State) : Result := writeIgnored v s

end Sys2Proof.Machine
end

