-- ==== Sys2Proof/Machine/Dispatch.lean ====
section
/-! DEFINITION. One arm per constructor of Instr: its meaning. -/

namespace Sys2Proof.Machine

open Sys2Proof

/-- The meaning of an instruction. -/
def exec (i : Instr) (s : State) : Host.Outcome State Fault Refusal :=
  match i with
  | .push b => Sys2Proof.Machine.execPush b s
  | .rdParam => Sys2Proof.Machine.execRdParam s
  | .rdStatus => Sys2Proof.Machine.execRdStatus s
  | .rdCtrl => Sys2Proof.Machine.execRdCtrl s
  | .rdEvents => Sys2Proof.Machine.execRdEvents s
  | .rdIrqEn => Sys2Proof.Machine.execRdIrqEn s
  | .rdIrqStatus => Sys2Proof.Machine.execRdIrqStatus s
  | .rdPkt => Sys2Proof.Machine.execRdPkt s
  | .rdPosX => Sys2Proof.Machine.execRdPosX s
  | .rdPosY => Sys2Proof.Machine.execRdPosY s
  | .rdPressure => Sys2Proof.Machine.execRdPressure s
  | .rdTiltX => Sys2Proof.Machine.execRdTiltX s
  | .rdTiltY => Sys2Proof.Machine.execRdTiltY s
  | .rdTiltXb => Sys2Proof.Machine.execRdTiltXb s
  | .rdTiltYb => Sys2Proof.Machine.execRdTiltYb s
  | .rdThrottle => Sys2Proof.Machine.execRdThrottle s
  | .rdRelWheel => Sys2Proof.Machine.execRdRelWheel s
  | .rdRotRaw => Sys2Proof.Machine.execRdRotRaw s
  | .rdRotAngle => Sys2Proof.Machine.execRdRotAngle s
  | .rdToolId => Sys2Proof.Machine.execRdToolId s
  | .rdSerial => Sys2Proof.Machine.execRdSerial s
  | .rdClsRow0 => Sys2Proof.Machine.execRdClsRow0 s
  | .rdClsRow1 => Sys2Proof.Machine.execRdClsRow1 s
  | .rdClsRow2 => Sys2Proof.Machine.execRdClsRow2 s
  | .rdClsRow3 => Sys2Proof.Machine.execRdClsRow3 s
  | .rdClsRow4 => Sys2Proof.Machine.execRdClsRow4 s
  | .rdClsRow5 => Sys2Proof.Machine.execRdClsRow5 s
  | .rdClsRow6 => Sys2Proof.Machine.execRdClsRow6 s
  | .rdFrame k => Sys2Proof.Machine.execRdFrame k s
  | .rdRsvd018 => Sys2Proof.Machine.execRdRsvd018 s
  | .rdRsvd01C => Sys2Proof.Machine.execRdRsvd01C s
  | .rdRsvd058 => Sys2Proof.Machine.execRdRsvd058 s
  | .rdRsvd05C => Sys2Proof.Machine.execRdRsvd05C s
  | .rdRsvd060 => Sys2Proof.Machine.execRdRsvd060 s
  | .rdRsvd064 => Sys2Proof.Machine.execRdRsvd064 s
  | .rdRsvd068 => Sys2Proof.Machine.execRdRsvd068 s
  | .rdRsvd06C => Sys2Proof.Machine.execRdRsvd06C s
  | .rdRsvd070 => Sys2Proof.Machine.execRdRsvd070 s
  | .rdRsvd074 => Sys2Proof.Machine.execRdRsvd074 s
  | .rdRsvd078 => Sys2Proof.Machine.execRdRsvd078 s
  | .rdRsvd07C => Sys2Proof.Machine.execRdRsvd07C s
  | .rdRsvd09C => Sys2Proof.Machine.execRdRsvd09C s
  | .rdRsvd0A0 => Sys2Proof.Machine.execRdRsvd0A0 s
  | .rdRsvd0A4 => Sys2Proof.Machine.execRdRsvd0A4 s
  | .rdRsvd0A8 => Sys2Proof.Machine.execRdRsvd0A8 s
  | .rdRsvd0AC => Sys2Proof.Machine.execRdRsvd0AC s
  | .rdRsvd0B0 => Sys2Proof.Machine.execRdRsvd0B0 s
  | .rdRsvd0B4 => Sys2Proof.Machine.execRdRsvd0B4 s
  | .rdRsvd0B8 => Sys2Proof.Machine.execRdRsvd0B8 s
  | .rdRsvd0BC => Sys2Proof.Machine.execRdRsvd0BC s
  | .rdRsvd0C0 => Sys2Proof.Machine.execRdRsvd0C0 s
  | .rdRsvd0C4 => Sys2Proof.Machine.execRdRsvd0C4 s
  | .rdRsvd0C8 => Sys2Proof.Machine.execRdRsvd0C8 s
  | .rdRsvd0CC => Sys2Proof.Machine.execRdRsvd0CC s
  | .rdRsvd0D0 => Sys2Proof.Machine.execRdRsvd0D0 s
  | .rdRsvd0D4 => Sys2Proof.Machine.execRdRsvd0D4 s
  | .rdRsvd0D8 => Sys2Proof.Machine.execRdRsvd0D8 s
  | .rdRsvd0DC => Sys2Proof.Machine.execRdRsvd0DC s
  | .rdRsvd0E0 => Sys2Proof.Machine.execRdRsvd0E0 s
  | .rdRsvd0E4 => Sys2Proof.Machine.execRdRsvd0E4 s
  | .rdRsvd0E8 => Sys2Proof.Machine.execRdRsvd0E8 s
  | .rdRsvd0EC => Sys2Proof.Machine.execRdRsvd0EC s
  | .rdRsvd0F0 => Sys2Proof.Machine.execRdRsvd0F0 s
  | .rdRsvd0F4 => Sys2Proof.Machine.execRdRsvd0F4 s
  | .rdRsvd0F8 => Sys2Proof.Machine.execRdRsvd0F8 s
  | .rdRsvd0FC => Sys2Proof.Machine.execRdRsvd0FC s
  | .wrCtrl v => Sys2Proof.Machine.execWrCtrl v s
  | .wrEvents v => Sys2Proof.Machine.execWrEvents v s
  | .wrIrqEn v => Sys2Proof.Machine.execWrIrqEn v s
  | .wrParam v => Sys2Proof.Machine.execWrParam v s
  | .wrStatus v => Sys2Proof.Machine.execWrStatus v s
  | .wrIrqStatus v => Sys2Proof.Machine.execWrIrqStatus v s
  | .wrRsvd018 v => Sys2Proof.Machine.execWrRsvd018 v s
  | .wrRsvd01C v => Sys2Proof.Machine.execWrRsvd01C v s
  | .wrPkt v => Sys2Proof.Machine.execWrPkt v s
  | .wrPosX v => Sys2Proof.Machine.execWrPosX v s
  | .wrPosY v => Sys2Proof.Machine.execWrPosY v s
  | .wrPressure v => Sys2Proof.Machine.execWrPressure v s
  | .wrTiltX v => Sys2Proof.Machine.execWrTiltX v s
  | .wrTiltY v => Sys2Proof.Machine.execWrTiltY v s
  | .wrTiltXb v => Sys2Proof.Machine.execWrTiltXb v s
  | .wrTiltYb v => Sys2Proof.Machine.execWrTiltYb v s
  | .wrThrottle v => Sys2Proof.Machine.execWrThrottle v s
  | .wrRelWheel v => Sys2Proof.Machine.execWrRelWheel v s
  | .wrRotRaw v => Sys2Proof.Machine.execWrRotRaw v s
  | .wrRotAngle v => Sys2Proof.Machine.execWrRotAngle v s
  | .wrToolId v => Sys2Proof.Machine.execWrToolId v s
  | .wrSerial v => Sys2Proof.Machine.execWrSerial v s
  | .wrRsvd058 v => Sys2Proof.Machine.execWrRsvd058 v s
  | .wrRsvd05C v => Sys2Proof.Machine.execWrRsvd05C v s
  | .wrRsvd060 v => Sys2Proof.Machine.execWrRsvd060 v s
  | .wrRsvd064 v => Sys2Proof.Machine.execWrRsvd064 v s
  | .wrRsvd068 v => Sys2Proof.Machine.execWrRsvd068 v s
  | .wrRsvd06C v => Sys2Proof.Machine.execWrRsvd06C v s
  | .wrRsvd070 v => Sys2Proof.Machine.execWrRsvd070 v s
  | .wrRsvd074 v => Sys2Proof.Machine.execWrRsvd074 v s
  | .wrRsvd078 v => Sys2Proof.Machine.execWrRsvd078 v s
  | .wrRsvd07C v => Sys2Proof.Machine.execWrRsvd07C v s
  | .wrClsRow0 v => Sys2Proof.Machine.execWrClsRow0 v s
  | .wrClsRow1 v => Sys2Proof.Machine.execWrClsRow1 v s
  | .wrClsRow2 v => Sys2Proof.Machine.execWrClsRow2 v s
  | .wrClsRow3 v => Sys2Proof.Machine.execWrClsRow3 v s
  | .wrClsRow4 v => Sys2Proof.Machine.execWrClsRow4 v s
  | .wrClsRow5 v => Sys2Proof.Machine.execWrClsRow5 v s
  | .wrClsRow6 v => Sys2Proof.Machine.execWrClsRow6 v s
  | .wrRsvd09C v => Sys2Proof.Machine.execWrRsvd09C v s
  | .wrRsvd0A0 v => Sys2Proof.Machine.execWrRsvd0A0 v s
  | .wrRsvd0A4 v => Sys2Proof.Machine.execWrRsvd0A4 v s
  | .wrRsvd0A8 v => Sys2Proof.Machine.execWrRsvd0A8 v s
  | .wrRsvd0AC v => Sys2Proof.Machine.execWrRsvd0AC v s
  | .wrRsvd0B0 v => Sys2Proof.Machine.execWrRsvd0B0 v s
  | .wrRsvd0B4 v => Sys2Proof.Machine.execWrRsvd0B4 v s
  | .wrRsvd0B8 v => Sys2Proof.Machine.execWrRsvd0B8 v s
  | .wrRsvd0BC v => Sys2Proof.Machine.execWrRsvd0BC v s
  | .wrRsvd0C0 v => Sys2Proof.Machine.execWrRsvd0C0 v s
  | .wrRsvd0C4 v => Sys2Proof.Machine.execWrRsvd0C4 v s
  | .wrRsvd0C8 v => Sys2Proof.Machine.execWrRsvd0C8 v s
  | .wrRsvd0CC v => Sys2Proof.Machine.execWrRsvd0CC v s
  | .wrRsvd0D0 v => Sys2Proof.Machine.execWrRsvd0D0 v s
  | .wrRsvd0D4 v => Sys2Proof.Machine.execWrRsvd0D4 v s
  | .wrRsvd0D8 v => Sys2Proof.Machine.execWrRsvd0D8 v s
  | .wrRsvd0DC v => Sys2Proof.Machine.execWrRsvd0DC v s
  | .wrRsvd0E0 v => Sys2Proof.Machine.execWrRsvd0E0 v s
  | .wrRsvd0E4 v => Sys2Proof.Machine.execWrRsvd0E4 v s
  | .wrRsvd0E8 v => Sys2Proof.Machine.execWrRsvd0E8 v s
  | .wrRsvd0EC v => Sys2Proof.Machine.execWrRsvd0EC v s
  | .wrRsvd0F0 v => Sys2Proof.Machine.execWrRsvd0F0 v s
  | .wrRsvd0F4 v => Sys2Proof.Machine.execWrRsvd0F4 v s
  | .wrRsvd0F8 v => Sys2Proof.Machine.execWrRsvd0F8 v s
  | .wrRsvd0FC v => Sys2Proof.Machine.execWrRsvd0FC v s
  | .wrFrame0 v => Sys2Proof.Machine.execWrFrame0 v s
  | .wrFrame1 v => Sys2Proof.Machine.execWrFrame1 v s
  | .wrFrame2 v => Sys2Proof.Machine.execWrFrame2 v s
  | .wrFrame3 v => Sys2Proof.Machine.execWrFrame3 v s
  | .wrFrame4 v => Sys2Proof.Machine.execWrFrame4 v s
  | .wrFrame5 v => Sys2Proof.Machine.execWrFrame5 v s
  | .wrFrame6 v => Sys2Proof.Machine.execWrFrame6 v s
  | .wrFrame7 v => Sys2Proof.Machine.execWrFrame7 v s
  | .wrFrame8 v => Sys2Proof.Machine.execWrFrame8 v s
  | .wrFrame9 v => Sys2Proof.Machine.execWrFrame9 v s
  | .wrFrame10 v => Sys2Proof.Machine.execWrFrame10 v s
  | .wrFrame11 v => Sys2Proof.Machine.execWrFrame11 v s
  | .wrFrame12 v => Sys2Proof.Machine.execWrFrame12 v s
  | .wrFrame13 v => Sys2Proof.Machine.execWrFrame13 v s
  | .wrFrame14 v => Sys2Proof.Machine.execWrFrame14 v s
  | .wrFrame15 v => Sys2Proof.Machine.execWrFrame15 v s
  | .wrFrame16 v => Sys2Proof.Machine.execWrFrame16 v s
  | .wrFrame17 v => Sys2Proof.Machine.execWrFrame17 v s
  | .wrFrame18 v => Sys2Proof.Machine.execWrFrame18 v s
  | .wrFrame19 v => Sys2Proof.Machine.execWrFrame19 v s
  | .wrFrame20 v => Sys2Proof.Machine.execWrFrame20 v s
  | .wrFrame21 v => Sys2Proof.Machine.execWrFrame21 v s
  | .wrFrame22 v => Sys2Proof.Machine.execWrFrame22 v s
  | .wrFrame23 v => Sys2Proof.Machine.execWrFrame23 v s
  | .wrFrame24 v => Sys2Proof.Machine.execWrFrame24 v s
  | .wrFrame25 v => Sys2Proof.Machine.execWrFrame25 v s
  | .wrFrame26 v => Sys2Proof.Machine.execWrFrame26 v s
  | .wrFrame27 v => Sys2Proof.Machine.execWrFrame27 v s
  | .wrFrame28 v => Sys2Proof.Machine.execWrFrame28 v s
  | .wrFrame29 v => Sys2Proof.Machine.execWrFrame29 v s
  | .wrFrame30 v => Sys2Proof.Machine.execWrFrame30 v s
  | .wrFrame31 v => Sys2Proof.Machine.execWrFrame31 v s
  | .wrFrame32 v => Sys2Proof.Machine.execWrFrame32 v s
  | .wrFrame33 v => Sys2Proof.Machine.execWrFrame33 v s
  | .wrFrame34 v => Sys2Proof.Machine.execWrFrame34 v s
  | .wrFrame35 v => Sys2Proof.Machine.execWrFrame35 v s
  | .wrFrame36 v => Sys2Proof.Machine.execWrFrame36 v s
  | .wrFrame37 v => Sys2Proof.Machine.execWrFrame37 v s
  | .wrFrame38 v => Sys2Proof.Machine.execWrFrame38 v s
  | .wrFrame39 v => Sys2Proof.Machine.execWrFrame39 v s
  | .wrFrame40 v => Sys2Proof.Machine.execWrFrame40 v s
  | .wrFrame41 v => Sys2Proof.Machine.execWrFrame41 v s
  | .wrFrame42 v => Sys2Proof.Machine.execWrFrame42 v s
  | .wrFrame43 v => Sys2Proof.Machine.execWrFrame43 v s
  | .wrFrame44 v => Sys2Proof.Machine.execWrFrame44 v s
  | .wrFrame45 v => Sys2Proof.Machine.execWrFrame45 v s
  | .wrFrame46 v => Sys2Proof.Machine.execWrFrame46 v s
  | .wrFrame47 v => Sys2Proof.Machine.execWrFrame47 v s
  | .wrFrame48 v => Sys2Proof.Machine.execWrFrame48 v s
  | .wrFrame49 v => Sys2Proof.Machine.execWrFrame49 v s
  | .wrFrame50 v => Sys2Proof.Machine.execWrFrame50 v s
  | .wrFrame51 v => Sys2Proof.Machine.execWrFrame51 v s
  | .wrFrame52 v => Sys2Proof.Machine.execWrFrame52 v s
  | .wrFrame53 v => Sys2Proof.Machine.execWrFrame53 v s
  | .wrFrame54 v => Sys2Proof.Machine.execWrFrame54 v s
  | .wrFrame55 v => Sys2Proof.Machine.execWrFrame55 v s
  | .wrFrame56 v => Sys2Proof.Machine.execWrFrame56 v s
  | .wrFrame57 v => Sys2Proof.Machine.execWrFrame57 v s
  | .wrFrame58 v => Sys2Proof.Machine.execWrFrame58 v s
  | .wrFrame59 v => Sys2Proof.Machine.execWrFrame59 v s
  | .wrFrame60 v => Sys2Proof.Machine.execWrFrame60 v s
  | .wrFrame61 v => Sys2Proof.Machine.execWrFrame61 v s
  | .wrFrame62 v => Sys2Proof.Machine.execWrFrame62 v s
  | .wrFrame63 v => Sys2Proof.Machine.execWrFrame63 v s
  | .badacc => Sys2Proof.Machine.execBadacc s
  | .pktRow0DeviceId x1 ch => Sys2Proof.Machine.execPktRow0DeviceId x1 ch s
  | .pktRow1OutOfProx ch => Sys2Proof.Machine.execPktRow1OutOfProx ch s
  | .pktRow2Stylus x6 x21 ch => Sys2Proof.Machine.execPktRow2Stylus x6 x21 ch s
  | .pktRow3Stylus x6 ch => Sys2Proof.Machine.execPktRow3Stylus x6 ch s
  | .pktRow4Cursor1 x6 ch => Sys2Proof.Machine.execPktRow4Cursor1 x6 ch s
  | .pktRow5Cursor1 x6 ch => Sys2Proof.Machine.execPktRow5Cursor1 x6 ch s
  | .pktRow6Cursor2 x6 ch => Sys2Proof.Machine.execPktRow6Cursor2 x6 ch s
  | .pktUnknown mid ch => Sys2Proof.Machine.execPktUnknown mid ch s

end Sys2Proof.Machine
end

