-- ==== Sys2Proof/Machine/Cycle.lean ====
section
/-! DEFINITION. What a step does with each kind of input: a line of text, a clock cycle with its ports, an observation of
the classifier, nothing (R75, R101, R167, R168), and how an instruction is placed where the next step fetches it. -/

namespace Sys2Proof.Machine

/-- The input is done. -/
def popInput (s : State) : State := { s with inputs := s.inputs.tail }

/-- Whether the instruction is a PUSH. -/
def isPush : Instr → Bool
  | .push _ => true
  | _ => false

/-- A PUSH whose byte was not accepted stays where it is: the program text is stuck there until an ACK (R77, I13);
every other line is done (log 4). -/
def afterText (i : Instr) (s : State) : State := if isPush i && !s.out.accepted then s else popInput s

/-- The instruction of a code, run; a code that is none is refused (R71). -/
def runCode (c : Code) (s : State) : Result :=
  match decode c with
  | .instr i => exec i s
  | .reject e => .refused (refusalOf e)

/-- A line of program text: one transaction, alone in its cycle (R75, R167). -/
def textStep (t : Descr) (payload : Option Word) (s : State) : Result :=
  match decode (.xact t payload) with
  | .instr i => mapNext (exec i (beginCycle s)) (afterText i)
  | .reject e => .refused (refusalOf e)

/-- The descriptor of a bus access: READ or WRITE of `bus_addr[8:2]` where the access is 32 bits wide and aligned,
BADACC otherwise (R52, R70; the reserved size code 3 too, I9; log 8). -/
def busCode (b : BusReq) : Code :=
  if b.size = 2 ∧ b.addr.extractLsb' 0 2 = 0 then
    if b.we then .xact (0x8000#16 ||| (b.addr.extractLsb' 2 7).setWidth 16 <<< 7) (some b.wdata)
    else .xact (0x4000#16 ||| (b.addr.extractLsb' 2 7).setWidth 16 <<< 7) none
  else .xact 0xC000 none

/-- The descriptor of an offered byte (R70). -/
def byteCode (b : Byte) : Code := .xact (b.setWidth 16) none

/-- Phases 1 and 2 of a cycle: the READ sees the state at its start, the WRITE takes effect (R167). -/
def busPhase (bus : Option BusReq) (s : State) : Result :=
  match bus with
  | none => .next s
  | some b => runCode (busCode b) s

/-- Phase 3: the PUSH, enabled by `in_ready` as sampled at the start of the cycle (R167). A byte that is
not accepted is not put back (DESIGN CHOICE, safe: log 5). -/
def pushPhase (byte : Option Byte) (ready : Bool) (s : State) : Result :=
  match byte with
  | none => .next s
  | some b => if ready then runCode (byteCode b) s else .next s

/-- A clock cycle with these input ports (R167). `rst` overrides every other input (R187). -/
def cycleStep (p : PortsIn) (s : State) : Result :=
  if p.rst then .next (popInput (resetCycle p.bus.isSome s))
  else mapNext (andThen (busPhase p.bus (beginCycle s)) (pushPhase p.byte (inReady s))) popInput

/-- The classifier's outputs are observed. While VALID_BIN = 1 its opcode is the header `d0`, decoded by the table of
R102; a byte without bit 7, which no reachable state holds there (R31), is classified all the same (R79). -/
def classifierStep (s : State) : Result :=
  if validBin s then
    match decode (.header (header s)) with
    | .instr i => mapNext (exec i s) popInput
    | .reject _ => .next (popInput (latchCls (classifier s) s))
  else .next (popInput (latchCls ClsOut.inactive s))

/-- IDLE: a cycle with no transaction; the block's state does not change (R168). -/
def idleStep (s : State) : Result := .next (beginCycle s)

/-- The code is the next input: a transaction as a line of text, a header as byte 0 of a pending binary frame whose
classification is observed next (R101). -/
def placeCode (c : Code) (s : State) : State :=
  match c with
  | .xact t payload => { s with inputs := .text t payload :: s.inputs }
  | .header h =>
    { s with buf := Memory.write s.buf 0 h, idx := 0, pend := true, fkind := false, flen := binLen,
             inputs := .classify :: s.inputs }

end Sys2Proof.Machine
end

