-- ==== Sys2Proof/Machine/Step.lean ====
section
/-! DEFINITION. The step: the next input decides what it does (R16, R167). -/

namespace Sys2Proof.Machine

/-- One step. No input left is an idle cycle (R168). -/
def step (s : State) : Host.Outcome State Fault Refusal :=
  match s.inputs with
  | [] => idleStep s
  | .text t payload :: _ => textStep t payload s
  | .cycle p :: _ => cycleStep p s
  | .classify :: _ => classifierStep s

/-- The state whose next step runs the instruction with these table bits (log 3). -/
def State.withFetchWord (s : State) (nbits w : Nat) : State := placeCode (codeOfTableWord nbits w) s

end Sys2Proof.Machine
end

