-- ==== Sys2Proof/Safety.lean ====
section
/-! DEFINITION. The terms the statements use: the invariant of R31, and the lists of instructions that share a rule. -/

namespace Sys2Proof.Machine

/-- The invariants of R31, numbered as there, with the canonical form of the buffer's list, and with what R161 draws from
them for a pending frame (its bytes from FLEN on are 0x00). -/
structure Inv (s : State) : Prop where
  canonical : Memory.wf s.buf = true
  inRange : Memory.below s.params.bufCap s.buf = true
  idxLe : s.idx ≤ s.params.bufCap
  pendIdx : s.pend = true → s.idx = 0
  idleKind : s.pend = false → s.fkind = false ∧ s.flen = 0 ∧ ∀ i, s.idx ≤ i → Memory.read s.buf i = 0
  binaryFrame : s.pend = true → s.fkind = false →
    s.flen = 9 ∧ (Memory.read s.buf 0).getLsbD 7 = true ∧
      ∀ k, 1 ≤ k → k ≤ 8 → (Memory.read s.buf k).getLsbD 7 = false
  asciiFrame : s.pend = true → s.fkind = true →
    1 ≤ s.flen ∧ s.flen ≤ s.params.bufCap ∧ Memory.read s.buf (s.flen - 1) = 0 ∧
      ∀ k, k < s.flen - 1 → (Memory.read s.buf k).getLsbD 7 = false ∧ Memory.read s.buf k ≠ 0x0D
  binaryPartial : s.pend = false → 0 < s.idx → (Memory.read s.buf 0).getLsbD 7 = true →
    s.idx ≤ 8 ∧ ∀ k, 1 ≤ k → k < s.idx → (Memory.read s.buf k).getLsbD 7 = false
  asciiPartial : s.pend = false → 0 < s.idx → (Memory.read s.buf 0).getLsbD 7 = false →
    ∀ k, k < s.idx → (Memory.read s.buf k).getLsbD 7 = false ∧ Memory.read s.buf k ≠ 0x0D
  frameTail : s.pend = true → ∀ i, s.flen ≤ i → Memory.read s.buf i = 0

/-- The READs of a register or of a reserved offset; RD FRAME[i], which has an operand, is not among them. -/
def fixedReads : List Instr := [
    .rdParam, .rdStatus, .rdCtrl, .rdEvents, .rdIrqEn, .rdIrqStatus, .rdPkt, .rdPosX, .rdPosY, .rdPressure,
    .rdTiltX, .rdTiltY, .rdTiltXb, .rdTiltYb, .rdThrottle, .rdRelWheel, .rdRotRaw, .rdRotAngle, .rdToolId,
    .rdSerial, .rdClsRow0, .rdClsRow1, .rdClsRow2, .rdClsRow3, .rdClsRow4, .rdClsRow5, .rdClsRow6, .rdRsvd018,
    .rdRsvd01C, .rdRsvd058, .rdRsvd05C, .rdRsvd060, .rdRsvd064, .rdRsvd068, .rdRsvd06C, .rdRsvd070, .rdRsvd074,
    .rdRsvd078, .rdRsvd07C, .rdRsvd09C, .rdRsvd0A0, .rdRsvd0A4, .rdRsvd0A8, .rdRsvd0AC, .rdRsvd0B0, .rdRsvd0B4,
    .rdRsvd0B8, .rdRsvd0BC, .rdRsvd0C0, .rdRsvd0C4, .rdRsvd0C8, .rdRsvd0CC, .rdRsvd0D0, .rdRsvd0D4, .rdRsvd0D8,
    .rdRsvd0DC, .rdRsvd0E0, .rdRsvd0E4, .rdRsvd0E8, .rdRsvd0EC, .rdRsvd0F0, .rdRsvd0F4, .rdRsvd0F8, .rdRsvd0FC ]

/-- The READs of the reserved word offsets 6, 7, 22..31 and 39..63 (R162). -/
def reservedReads : List Instr := [
    .rdRsvd018, .rdRsvd01C, .rdRsvd058, .rdRsvd05C, .rdRsvd060, .rdRsvd064, .rdRsvd068, .rdRsvd06C, .rdRsvd070,
    .rdRsvd074, .rdRsvd078, .rdRsvd07C, .rdRsvd09C, .rdRsvd0A0, .rdRsvd0A4, .rdRsvd0A8, .rdRsvd0AC, .rdRsvd0B0,
    .rdRsvd0B4, .rdRsvd0B8, .rdRsvd0BC, .rdRsvd0C0, .rdRsvd0C4, .rdRsvd0C8, .rdRsvd0CC, .rdRsvd0D0, .rdRsvd0D4,
    .rdRsvd0D8, .rdRsvd0DC, .rdRsvd0E0, .rdRsvd0E4, .rdRsvd0E8, .rdRsvd0EC, .rdRsvd0F0, .rdRsvd0F4, .rdRsvd0F8,
    .rdRsvd0FC ]

/-- The WRITEs of every word offset but CTRL, EVENTS and IRQ_EN, with payload v (R163). -/
def ignoredWrites (v : Word) : List Instr := [
    .wrParam v, .wrStatus v, .wrIrqStatus v, .wrRsvd018 v, .wrRsvd01C v, .wrPkt v, .wrPosX v, .wrPosY v,
    .wrPressure v, .wrTiltX v, .wrTiltY v, .wrTiltXb v, .wrTiltYb v, .wrThrottle v, .wrRelWheel v, .wrRotRaw v,
    .wrRotAngle v, .wrToolId v, .wrSerial v, .wrRsvd058 v, .wrRsvd05C v, .wrRsvd060 v, .wrRsvd064 v, .wrRsvd068 v,
    .wrRsvd06C v, .wrRsvd070 v, .wrRsvd074 v, .wrRsvd078 v, .wrRsvd07C v, .wrClsRow0 v, .wrClsRow1 v, .wrClsRow2 v,
    .wrClsRow3 v, .wrClsRow4 v, .wrClsRow5 v, .wrClsRow6 v, .wrRsvd09C v, .wrRsvd0A0 v, .wrRsvd0A4 v, .wrRsvd0A8 v,
    .wrRsvd0AC v, .wrRsvd0B0 v, .wrRsvd0B4 v, .wrRsvd0B8 v, .wrRsvd0BC v, .wrRsvd0C0 v, .wrRsvd0C4 v, .wrRsvd0C8 v,
    .wrRsvd0CC v, .wrRsvd0D0 v, .wrRsvd0D4 v, .wrRsvd0D8 v, .wrRsvd0DC v, .wrRsvd0E0 v, .wrRsvd0E4 v, .wrRsvd0E8 v,
    .wrRsvd0EC v, .wrRsvd0F0 v, .wrRsvd0F4 v, .wrRsvd0F8 v, .wrRsvd0FC v, .wrFrame0 v, .wrFrame1 v, .wrFrame2 v,
    .wrFrame3 v, .wrFrame4 v, .wrFrame5 v, .wrFrame6 v, .wrFrame7 v, .wrFrame8 v, .wrFrame9 v, .wrFrame10 v,
    .wrFrame11 v, .wrFrame12 v, .wrFrame13 v, .wrFrame14 v, .wrFrame15 v, .wrFrame16 v, .wrFrame17 v, .wrFrame18 v,
    .wrFrame19 v, .wrFrame20 v, .wrFrame21 v, .wrFrame22 v, .wrFrame23 v, .wrFrame24 v, .wrFrame25 v, .wrFrame26 v,
    .wrFrame27 v, .wrFrame28 v, .wrFrame29 v, .wrFrame30 v, .wrFrame31 v, .wrFrame32 v, .wrFrame33 v, .wrFrame34 v,
    .wrFrame35 v, .wrFrame36 v, .wrFrame37 v, .wrFrame38 v, .wrFrame39 v, .wrFrame40 v, .wrFrame41 v, .wrFrame42 v,
    .wrFrame43 v, .wrFrame44 v, .wrFrame45 v, .wrFrame46 v, .wrFrame47 v, .wrFrame48 v, .wrFrame49 v, .wrFrame50 v,
    .wrFrame51 v, .wrFrame52 v, .wrFrame53 v, .wrFrame54 v, .wrFrame55 v, .wrFrame56 v, .wrFrame57 v, .wrFrame58 v,
    .wrFrame59 v, .wrFrame60 v, .wrFrame61 v, .wrFrame62 v, .wrFrame63 v ]

/-- Byte i of the frame buffer. -/
def byteAt (s : State) (i : Nat) : Byte := Memory.read s.buf i

/-- The n bits from bit `lo` up of byte `di` of the frame, zero-extended to a register word. -/
def slice32 (s : State) (i lo n : Nat) : Word := ((byteAt s i).extractLsb' lo n).setWidth 32

/-- The state in which a bus access was answered with `bus_rdata = v`, `bus_err = 0`; nothing else differs. -/
def answered (s : State) (v : Word) : State := { s with out := { s.out with rdata := v, err := false } }

end Sys2Proof.Machine
end

