-- ==== Sys2Proof/Certificates/Slice0/Obligations.lean ====
section
/-! DEFINITION. The statements for the provers. Each cites its rules of spec/ in OBLIGATIONS.json. -/

open Sys2Proof Sys2Proof.Machine

/-- Decoding the words of an instruction gives the instruction back (R68, R70, R72, R103, R104, R105, R106, R107,
R108, R109, R111). -/
def Obligations.DecodeOfEncode : Prop :=
  ∀ i : Instr, Instr.wf i = true → decode (encode i) = .instr i

/-- An instruction is decoded from its own words only (R70, R71, R72, R74, R68, R111). -/
def Obligations.EncodeOfDecode : Prop :=
  ∀ (c : Code) (i : Instr), decode c = .instr i → encode i = c ∧ Instr.wf i = true

/-- Some words written out from the encoding decode to the instruction they stand for (R70, R72, R102, R164). -/
def Obligations.DecodedWords : Prop :=
  decode (.xact 0x00C0 none) = .instr (.push 0xC0) ∧
  decode (.xact 0x4080 none) = .instr .rdStatus ∧
  decode (.xact 0x7400 none) = .instr (.rdFrame 40) ∧
  decode (.xact 0x4300 none) = .instr .rdRsvd018 ∧
  decode (.xact 0x8100 (some 0x00000002)) = .instr (.wrCtrl 0x00000002) ∧
  decode (.xact 0xBF80 (some 0x00000055)) = .instr (.wrFrame63 0x00000055) ∧
  decode (.xact 0xC000 none) = .instr .badacc ∧
  decode (.header 0xC3) = .instr (.pktRow0DeviceId 1 1) ∧
  decode (.header 0xE5) = .instr (.pktRow2Stylus 1 2 1) ∧
  decode (.header 0xB2) = .instr (.pktUnknown 0x19 0)

/-- A line with a reserved descriptor is refused (R71). -/
def Obligations.ReservedDescriptorRefused : Prop :=
  ∀ (s : State) (t : Descr) (p : Option Word) (rest : List Input), s.inputs = .text t p :: rest →
    ((t.extractLsb' 14 2 = 0b00 ∧ t.extractLsb' 8 6 ≠ 0) ∨ (t.extractLsb' 14 2 = 0b01 ∧ t.extractLsb' 0 7 ≠ 0) ∨
      (t.extractLsb' 14 2 = 0b10 ∧ t.extractLsb' 0 7 ≠ 0) ∨ (t.extractLsb' 14 2 = 0b11 ∧ t.extractLsb' 0 14 ≠ 0)) →
    step s = .refused (.reservedDescriptor t)

/-- A descriptor that is not reserved is a PUSH, a READ, a WRITE or BADACC, by its class (R70, R78). -/
def Obligations.DescriptorClasses : Prop :=
  ∀ t : Descr,
    (t.extractLsb' 14 2 = 0b00 → t.extractLsb' 8 6 = 0 → decode (.xact t none) = .instr (.push (t.extractLsb' 0 8))) ∧
    (t.extractLsb' 14 2 = 0b01 → t.extractLsb' 0 7 = 0 →
      ∃ i, decode (.xact t none) = .instr i ∧ (i ∈ fixedReads ∨ ∃ k, i = .rdFrame k)) ∧
    (t.extractLsb' 14 2 = 0b10 → t.extractLsb' 0 7 = 0 → ∀ v, ∃ i, decode (.xact t (some v)) = .instr i ∧
      (i = .wrCtrl v ∨ i = .wrEvents v ∨ i = .wrIrqEn v ∨ i ∈ ignoredWrites v)) ∧
    (t.extractLsb' 14 2 = 0b11 → t.extractLsb' 0 14 = 0 → decode (.xact t none) = .instr .badacc)

/-- An instance can be built from its three parameters exactly where they are legal (R9, R10, R11,
93_implementation_defined.md I2 I3 I4). -/
def Obligations.IllegalParametersRefused : Prop :=
  (∀ (c x : Nat) (m : Byte), (9 ≤ c ∧ c ≤ 64) ∧ (1 ≤ x ∧ x ≤ 6) ∧ m.getLsbD 7 = false ∧ m.getLsbD 0 = false →
    ∃ p, Params.ofValues c x m = some p ∧ p.bufCap = c ∧ p.proxBit = x ∧ p.secMask = m) ∧
  (∀ (c x : Nat) (m : Byte), ¬ ((9 ≤ c ∧ c ≤ 64) ∧ (1 ≤ x ∧ x ≤ 6) ∧ m.getLsbD 7 = false ∧ m.getLsbD 0 = false) →
    Params.ofValues c x m = none) ∧
  (∀ p : Params, (9 ≤ p.bufCap ∧ p.bufCap ≤ 64) ∧ (1 ≤ p.proxBit ∧ p.proxBit ≤ 6) ∧
    p.secMask.getLsbD 7 = false ∧ p.secMask.getLsbD 0 = false)

/-- A step on a line of text runs the decoded instruction (R75, R77, R167). -/
def Obligations.TextStepRunsInstruction : Prop :=
  ∀ (s : State) (t : Descr) (p : Option Word) (rest : List Input) (i : Instr),
    s.inputs = .text t p :: rest → decode (.xact t p) = .instr i →
    step s =
      match exec i { s with out := { rdata := 0, err := false, inReady := !s.pend, accepted := false } } with
      | .next u => .next (if isPush i = true ∧ u.out.accepted = false then u else { u with inputs := u.inputs.tail })
      | .fault f => .fault f
      | .refused r => .refused r

/-- An observation of the classifier runs the decoded header (R101, R111). -/
def Obligations.ClassifierStepRunsHeader : Prop :=
  ∀ (s : State) (rest : List Input) (i : Instr),
    s.inputs = .classify :: rest → s.pend = true → s.fkind = false → decode (.header (byteAt s 0)) = .instr i →
    step s =
      match exec i s with
      | .next u => .next { u with inputs := u.inputs.tail }
      | .fault f => .fault f
      | .refused r => .refused r

/-- A clock cycle runs its bus access, then the push that in_ready at its start allows (R52, R57, R92, R167). -/
def Obligations.CycleRunsBusThenPush : Prop :=
  ∀ (s : State) (p : PortsIn) (rest : List Input), s.inputs = .cycle p :: rest → p.rst = false →
    ∃ u : State,
      (match p.bus with
        | none => u = beginCycle s
        | some b =>
          exec (if b.size = 2 ∧ b.addr.extractLsb' 0 2 = 0 then
              if b.we then decodeWrite b.wdata (b.addr.extractLsb' 2 7).toNat
              else decodeRead (b.addr.extractLsb' 2 7).toNat
            else .badacc) (beginCycle s) = .next u) ∧
      step s =
        match p.byte with
        | none => .next { u with inputs := rest }
        | some b =>
          if s.pend = false then
            match exec (.push b) u with
            | .next w => .next { w with inputs := rest }
            | .fault f => .fault f
            | .refused r => .refused r
          else .next { u with inputs := rest }

/-- A cycle with no transaction changes no state of the block (R167, R168). -/
def Obligations.IdleCycleChangesNothing : Prop :=
  (∀ s : State, s.inputs = [] →
    step s = .next { s with out := { rdata := 0, err := false, inReady := !s.pend, accepted := false } }) ∧
  (∀ (s : State) (rest : List Input), s.inputs = .cycle { rst := false, byte := none, bus := none } :: rest →
    step s = .next { s with
      out := { rdata := 0, err := false, inReady := !s.pend, accepted := false }, inputs := rest })

/-- A cycle with rst = 1 gives the reset state whatever came before, and answers a bus access with an error (R44,
R185, R187). -/
def Obligations.ResetCycleFromAnyState : Prop :=
  ∀ (s : State) (p : PortsIn) (rest : List Input), s.inputs = .cycle p :: rest → p.rst = true →
    ∃ t, step s = .next t ∧ (∀ i, byteAt t i = 0) ∧ t.idx = 0 ∧ t.pend = false ∧ t.fkind = false ∧ t.flen = 0 ∧
      t.evOvf = false ∧ t.evRsy = false ∧ t.ie = 0 ∧ irq t = false ∧
      t.out = { rdata := 0, err := p.bus.isSome, inReady := false, accepted := false } ∧
      t.params = s.params ∧ t.inputs = rest

/-- No cycle, no observation and no well-spelled line ever stops the machine (R78, R79, R169). -/
def Obligations.StepNeverStops : Prop :=
  ∀ s : State, Inv s →
    (∀ (t : Descr) (p : Option Word) (rest : List Input), s.inputs = .text t p :: rest →
      ∃ i, decode (.xact t p) = .instr i) →
    ∃ u, step s = .next u

/-- A line PUSH while a frame is pending is stuck, as a next state that keeps the line at the head (the model's choice
of form: log 4) (R77, 93_implementation_defined.md I13). -/
def Obligations.StuckPush : Prop :=
  ∀ (s : State) (b : Byte) (rest : List Input),
    s.inputs = .text (b.setWidth 16) none :: rest → s.pend = true →
    ∃ t, step s = .next t ∧
      t = { s with out := { rdata := 0, err := false, inReady := false, accepted := false } } ∧ step t = .next t

/-- PUSH answers a next state for every byte; while a frame is pending the byte is not accepted and nothing changes
(R28, R78, R92). -/
def Obligations.PushCompletes : Prop :=
  (∀ (s : State) (b : Byte), s.idx ≤ s.params.bufCap →
    ∃ t, exec (.push b) s = .next t ∧ t.out = { s.out with accepted := !s.pend }) ∧
  (∀ (s : State) (b : Byte), s.pend = true →
    exec (.push b) s = .next { s with out := { s.out with accepted := false } })

/-- A byte with bit 7 set discards the partial frame and starts a binary frame (R86). -/
def Obligations.HighByteStartsFrame : Prop :=
  ∀ (s : State) (b : Byte), s.pend = false → b.getLsbD 7 = true →
    ∃ m : Memory, Memory.wf m = true ∧ (∀ i, Memory.read m i = if i = 0 then b else 0) ∧
      exec (.push b) s = .next { s with
        buf := m, idx := 1, evRsy := (if s.idx = 0 then s.evRsy else true), out := { s.out with accepted := true } }

/-- A low byte that finds the buffer full discards it and becomes byte 0; a terminator then completes an empty line
(R87, R96). -/
def Obligations.OverflowStartsAgain : Prop :=
  ∀ (s : State) (b : Byte), s.pend = false → b.getLsbD 7 = false → s.idx = s.params.bufCap →
    ∃ m : Memory, Memory.wf m = true ∧
      if b = 0x0D then
        (∀ i, Memory.read m i = 0) ∧
        exec (.push b) s = .next { s with
          buf := m, idx := 0, pend := true, fkind := true, flen := 1, evOvf := true, out := { s.out with accepted := true } }
      else
        (∀ i, Memory.read m i = if i = 0 then b else 0) ∧
        exec (.push b) s = .next { s with buf := m, idx := 1, evOvf := true, out := { s.out with accepted := true } }

/-- The ninth byte after a header completes a binary frame (R89). -/
def Obligations.NinthByteDeliversBinaryFrame : Prop :=
  ∀ (s : State) (b : Byte), Memory.wf s.buf = true → s.pend = false → s.idx = 8 →
    (byteAt s 0).getLsbD 7 = true → b.getLsbD 7 = false →
    ∃ m : Memory, Memory.wf m = true ∧ (∀ i, Memory.read m i = if i = 8 then b else byteAt s i) ∧
      exec (.push b) s = .next { s with
        buf := m, idx := 0, pend := true, fkind := false, flen := 9, out := { s.out with accepted := true } }

/-- A terminator on an ASCII line, an empty one too, completes it with NUL in its place (R90, R96, R98). -/
def Obligations.TerminatorDeliversLine : Prop :=
  ∀ s : State, Memory.wf s.buf = true → s.pend = false → s.idx < s.params.bufCap →
    (s.idx = 0 ∨ (byteAt s 0).getLsbD 7 = false) →
    ∃ m : Memory, Memory.wf m = true ∧ (∀ i, Memory.read m i = if i = s.idx then 0 else byteAt s i) ∧
      exec (.push 0x0D) s = .next { s with
        buf := m, idx := 0, pend := true, fkind := true, flen := s.idx + 1, out := { s.out with accepted := true } }

/-- Any other low byte is appended and no frame is delivered (R88, R91, R94). -/
def Obligations.OtherBytesAccumulate : Prop :=
  ∀ (s : State) (b : Byte), Memory.wf s.buf = true → s.pend = false → s.idx < s.params.bufCap → b.getLsbD 7 = false →
    ¬ (s.idx = 8 ∧ (byteAt s 0).getLsbD 7 = true) →
    ¬ (b = 0x0D ∧ (s.idx = 0 ∨ (byteAt s 0).getLsbD 7 = false)) →
    ∃ m : Memory, Memory.wf m = true ∧ (∀ i, Memory.read m i = if i = s.idx then b else byteAt s i) ∧
      exec (.push b) s = .next { s with buf := m, idx := s.idx + 1, out := { s.out with accepted := true } }

/-- What one PUSH can do to the flags (R99, R174). -/
def Obligations.PushSetsAndNeverClears : Prop :=
  (∀ (s t : State) (b : Byte), exec (.push b) s = .next t →
    t.ie = s.ie ∧ t.params = s.params ∧ (s.evOvf = true → t.evOvf = true) ∧ (s.evRsy = true → t.evRsy = true) ∧
      (s.pend = true → t.pend = true) ∧
      ¬ (s.evRsy = false ∧ t.evRsy = true ∧ s.pend = false ∧ t.pend = true) ∧
      ¬ (s.evRsy = false ∧ t.evRsy = true ∧ s.evOvf = false ∧ t.evOvf = true)) ∧
  (∃ (s t : State) (b : Byte), Inv s ∧ exec (.push b) s = .next t ∧
    s.evOvf = false ∧ t.evOvf = true ∧ s.pend = false ∧ t.pend = true)

/-- WR CTRL: SRST, ACK of a pending frame, or no effect (R141). -/
def Obligations.WriteCtrl : Prop :=
  ∀ (v : Word) (s : State), ∃ t, exec (.wrCtrl v) s = .next t ∧
    if v.getLsbD 1 = true then
      (∀ i, byteAt t i = 0) ∧
      t = { s with buf := t.buf, idx := 0, pend := false, fkind := false, flen := 0, evOvf := false, evRsy := false,
                   out := { s.out with rdata := 0, err := false } }
    else if v.getLsbD 0 = true ∧ s.pend = true then
      (∀ i, byteAt t i = 0) ∧
      t = { s with buf := t.buf, idx := 0, pend := false, fkind := false, flen := 0,
                   out := { s.out with rdata := 0, err := false } }
    else t = { s with out := { s.out with rdata := 0, err := false } }

/-- WR EVENTS clears exactly the flags whose bits are 1 (R142, R36). -/
def Obligations.WriteEventsClearsOnes : Prop :=
  ∀ (v : Word) (s : State), ∃ t, exec (.wrEvents v) s = .next t ∧
    t = { s with evOvf := (if v.getLsbD 0 = true then false else s.evOvf),
                 evRsy := (if v.getLsbD 1 = true then false else s.evRsy),
                 out := { s.out with rdata := 0, err := false } } ∧
    ∃ r, exec .rdEvents t = .next (answered t r) ∧
      r.getLsbD 0 = (s.evOvf && !v.getLsbD 0) ∧ r.getLsbD 1 = (s.evRsy && !v.getLsbD 1) ∧ r.extractLsb' 2 30 = 0

/-- WR IRQ_EN sets IE to v[2:0], and RD IRQ_EN reads it back (R143, R144, R37). -/
def Obligations.WriteIrqEnReadsBack : Prop :=
  ∀ (v : Word) (s : State), ∃ t, exec (.wrIrqEn v) s = .next t ∧
    t = { s with ie := v.extractLsb' 0 3, out := { s.out with rdata := 0, err := false } } ∧
    exec .rdIrqEn t = .next (answered t (v &&& 0x00000007))

/-- A WRITE of a read-only or reserved word offset has no effect and is no error (R163). -/
def Obligations.OtherWritesIgnored : Prop :=
  ∀ v : Word,
    (∀ (s : State) (i : Instr), i ∈ ignoredWrites v → exec i s = .next (answered s 0)) ∧
    (∀ w : BitVec 7, w ≠ 2 → w ≠ 3 → w ≠ 4 →
      ∃ i, decode (.xact (0x8000#16 ||| w.setWidth 16 <<< 7) (some v)) = .instr i ∧ i ∈ ignoredWrites v)

/-- Which word offsets have an effect when written, and which read as reserved (R43, R55, R72, R162, R163). -/
def Obligations.WindowMap : Prop :=
  ∀ w : BitVec 7,
    (∀ v : Word,
      if w = 2 then decode (.xact (0x8000#16 ||| w.setWidth 16 <<< 7) (some v)) = .instr (.wrCtrl v)
      else if w = 3 then decode (.xact (0x8000#16 ||| w.setWidth 16 <<< 7) (some v)) = .instr (.wrEvents v)
      else if w = 4 then decode (.xact (0x8000#16 ||| w.setWidth 16 <<< 7) (some v)) = .instr (.wrIrqEn v)
      else ∃ i, decode (.xact (0x8000#16 ||| w.setWidth 16 <<< 7) (some v)) = .instr i ∧ i ∈ ignoredWrites v) ∧
    (∃ i, decode (.xact (0x4000#16 ||| w.setWidth 16 <<< 7) none) = .instr i ∧
      (i ∈ reservedReads ↔
        (w.toNat = 6 ∨ w.toNat = 7 ∨ (22 ≤ w.toNat ∧ w.toNat ≤ 31) ∨ (39 ≤ w.toNat ∧ w.toNat ≤ 63))))

/-- BADACC answers bus_err = 1 and bus_rdata = 0 and changes nothing (R164). -/
def Obligations.BadAccessResponse : Prop :=
  (∀ s : State, exec .badacc s = .next { s with out := { s.out with rdata := 0, err := true } }) ∧
  decode (.xact 0xC000 none) = .instr .badacc ∧
  (∀ b : BusReq, (b.size ≠ 2 ∨ b.addr.extractLsb' 0 2 ≠ 0) ↔ decode (busCode b) = .instr .badacc)

/-- A bus access that is not 32 bits wide or not aligned is a BusError with no effect (R52, R170). -/
def Obligations.NarrowOrMisalignedAccess : Prop :=
  ∀ (s : State) (b : BusReq) (rest : List Input),
    s.inputs = .cycle { rst := false, byte := none, bus := some b } :: rest →
    (b.size ≠ 2 ∨ b.addr.extractLsb' 0 2 ≠ 0) →
    step s = .next { s with
      out := { rdata := 0, err := true, inReady := !s.pend, accepted := false }, inputs := rest }

/-- Every READ completes, without error and without a side effect (R54, R136, R43). -/
def Obligations.ReadsHaveNoSideEffects : Prop :=
  (∀ (s : State) (i : Instr), (i ∈ fixedReads ∨ ∃ k, i = .rdFrame k) → ∃ v, exec i s = .next (answered s v)) ∧
  (∀ w : BitVec 7, ∃ i, decode (.xact (0x4000#16 ||| w.setWidth 16 <<< 7) none) = .instr i ∧
    (i ∈ fixedReads ∨ ∃ k, i = .rdFrame k))

/-- RD PARAM reports the instance (R33). -/
def Obligations.ReadParam : Prop :=
  ∀ s : State, ∃ v, exec .rdParam s = .next (answered s v) ∧
    v.extractLsb' 0 8 = BitVec.ofNat 8 s.params.bufCap ∧ v.extractLsb' 8 8 = 9 ∧
    v.extractLsb' 16 3 = BitVec.ofNat 3 s.params.proxBit ∧ v.extractLsb' 19 5 = 0 ∧
    v.extractLsb' 24 8 = s.params.secMask

/-- RD STATUS shows PEND, FKIND, MODE, IN_READY, FLEN and IDX in their places (R34, R138, R27, R28). -/
def Obligations.ReadStatus : Prop :=
  ∀ s : State, ∃ v, exec .rdStatus s = .next (answered s v) ∧
    v.getLsbD 0 = s.pend ∧ v.getLsbD 1 = s.fkind ∧
    v.extractLsb' 2 2 = (if s.idx = 0 then 0b00 else if (byteAt s 0).getLsbD 7 then 0b01 else 0b10) ∧
    v.getLsbD 4 = !s.pend ∧ v.extractLsb' 5 3 = 0 ∧ v.extractLsb' 8 8 = BitVec.ofNat 8 s.flen ∧
    v.extractLsb' 16 8 = BitVec.ofNat 8 s.idx ∧ v.extractLsb' 24 8 = 0

/-- RD CTRL, RD EVENTS, RD IRQ_EN and RD IRQ_STATUS (R35, R36, R37, R38, R139, R140, R144, R145). -/
def Obligations.ReadCtrlEventsIrq : Prop :=
  ∀ s : State,
    exec .rdCtrl s = .next (answered s 0) ∧
    (∃ v, exec .rdEvents s = .next (answered s v) ∧
      v.getLsbD 0 = s.evOvf ∧ v.getLsbD 1 = s.evRsy ∧ v.extractLsb' 2 30 = 0) ∧
    (∃ v, exec .rdIrqEn s = .next (answered s v) ∧ v.extractLsb' 0 3 = s.ie ∧ v.extractLsb' 3 29 = 0) ∧
    (∃ v, exec .rdIrqStatus s = .next (answered s v) ∧
      v.getLsbD 0 = (s.pend && s.ie.getLsbD 0) ∧ v.getLsbD 1 = (s.evOvf && s.ie.getLsbD 1) ∧
      v.getLsbD 2 = (s.evRsy && s.ie.getLsbD 2) ∧ v.extractLsb' 3 29 = 0)

/-- irq is high exactly while RD IRQ_STATUS reads a pending source (R30). -/
def Obligations.IrqIsAnyPendingSource : Prop :=
  ∀ s : State,
    irq s = ((s.pend && s.ie.getLsbD 0) || (s.evOvf && s.ie.getLsbD 1) || (s.evRsy && s.ie.getLsbD 2)) ∧
    ∃ v, exec .rdIrqStatus s = .next (answered s v) ∧ (irq s = true ↔ v ≠ 0)

/-- RD PKT classifies the pending binary frame (R39, R110, R111, R112, R113, R114, R146). -/
def Obligations.ReadPkt : Prop :=
  ∀ s : State,
    (¬ (s.pend = true ∧ s.fkind = false) → exec .rdPkt s = .next (answered s 0x00000038)) ∧
    (s.pend = true → s.fkind = false → ∃ v, exec .rdPkt s = .next (answered s v) ∧
      (v.extractLsb' 0 3, v.extractLsb' 3 3) =
        (if byteAt s 0 &&& 0xFC#8 = 0xC0#8 then (1#3, 0#3)
         else if byteAt s 0 &&& 0xFE#8 = 0x80#8 then (2#3, 1#3)
         else if byteAt s 0 &&& 0xB8#8 = 0xA0#8 then (3#3, 2#3)
         else if byteAt s 0 &&& 0xBE#8 = 0xB4#8 then (3#3, 3#3)
         else if byteAt s 0 &&& 0xBE#8 = 0xA8#8 then (4#3, 4#3)
         else if byteAt s 0 &&& 0xBE#8 = 0xB0#8 then (4#3, 5#3)
         else if byteAt s 0 &&& 0xBE#8 = 0xAA#8 then (5#3, 6#3)
         else (7#3, 7#3)) ∧
      v.getLsbD 6 = (byteAt s 0).getLsbD 0 ∧
      v.getLsbD 7 = ((v.extractLsb' 0 3 == 3#3 || v.extractLsb' 0 3 == 4#3 || v.extractLsb' 0 3 == 5#3) &&
        (byteAt s 0).getLsbD s.params.proxBit) ∧
      v.getLsbD 8 = decide (byteAt s 0 &&& s.params.secMask ≠ 0) ∧ v.extractLsb' 9 7 = 0 ∧
      v.extractLsb' 16 8 = byteAt s 0 ∧ v.extractLsb' 24 8 = 0)

/-- RD POS_X and RD POS_Y read the 16 position bits from their places in d1 to d5 (R65, R118, R119, R147, R148). -/
def Obligations.ReadPosition : Prop :=
  ∀ s : State, s.pend = true → s.fkind = false →
    exec .rdPosX s = .next (answered s (slice32 s 1 0 7 <<< 9 ||| slice32 s 2 0 7 <<< 2 ||| slice32 s 3 5 2)) ∧
    exec .rdPosY s = .next (answered s (slice32 s 3 0 5 <<< 11 ||| slice32 s 4 0 7 <<< 4 ||| slice32 s 5 3 4))

/-- A position that is encoded as R120 says is read back exactly (R120). -/
def Obligations.PositionRoundTrip : Prop :=
  ∀ (s : State) (x y : BitVec 16) (q : BitVec 3), s.pend = true → s.fkind = false →
    byteAt s 1 = (x.extractLsb' 9 7).setWidth 8 → byteAt s 2 = (x.extractLsb' 2 7).setWidth 8 →
    byteAt s 3 = (x.extractLsb' 0 2).setWidth 8 <<< 5 ||| (y.extractLsb' 11 5).setWidth 8 →
    byteAt s 4 = (y.extractLsb' 4 7).setWidth 8 →
    byteAt s 5 = (y.extractLsb' 0 4).setWidth 8 <<< 3 ||| q.setWidth 8 →
    exec .rdPosX s = .next (answered s (x.setWidth 32)) ∧ exec .rdPosY s = .next (answered s (y.setWidth 32))

/-- RD PRESSURE and RD THROTTLE read one 10-bit magnitude, the second with the sign of d8[3] (R65, R121, R125, R149,
R154). -/
def Obligations.ReadPressureAndThrottle : Prop :=
  ∀ s : State, s.pend = true → s.fkind = false →
    exec .rdPressure s = .next (answered s (slice32 s 5 0 3 <<< 7 ||| slice32 s 6 0 7)) ∧
    exec .rdThrottle s = .next (answered s
      (if (byteAt s 8).getLsbD 3 then -(slice32 s 5 0 3 <<< 7 ||| slice32 s 6 0 7)
       else slice32 s 5 0 3 <<< 7 ||| slice32 s 6 0 7))

/-- The tilt registers read d7 and d8 as 7-bit two's complement, and biased by 64 (R122, R123, R124, R150, R151, R152,
R153). -/
def Obligations.ReadTilt : Prop :=
  ∀ s : State, s.pend = true → s.fkind = false →
    exec .rdTiltX s = .next (answered s (((byteAt s 7).extractLsb' 0 7).signExtend 32)) ∧
    exec .rdTiltY s = .next (answered s (((byteAt s 8).extractLsb' 0 7).signExtend 32)) ∧
    exec .rdTiltXb s = .next (answered s (slice32 s 7 0 7 ^^^ 0x40#32)) ∧
    exec .rdTiltYb s = .next (answered s (slice32 s 8 0 7 ^^^ 0x40#32))

/-- The relative wheel, the raw rotation and the rotation angle (R126, R127, R128, R155, R156, R157). -/
def Obligations.ReadWheelAndRotation : Prop :=
  ∀ s : State, s.pend = true → s.fkind = false →
    exec .rdRelWheel s = .next (answered s
      (if (byteAt s 8).extractLsb' 0 2 = 0b01#2 then 0xFFFFFFFF#32
       else if (byteAt s 8).extractLsb' 0 2 = 0b10#2 then 1#32 else 0#32)) ∧
    exec .rdRotRaw s = .next (answered s (slice32 s 6 0 4 <<< 7 ||| slice32 s 7 0 7)) ∧
    exec .rdRotAngle s = .next (answered s
      (if slice32 s 6 0 4 <<< 7 ||| slice32 s 7 0 7 < 900#32 then -(slice32 s 6 0 4 <<< 7 ||| slice32 s 7 0 7)
       else 1799#32 - (slice32 s 6 0 4 <<< 7 ||| slice32 s 7 0 7)))

/-- RD TOOL_ID and RD SERIAL (R65, R129, R130, R158, R159). -/
def Obligations.ReadToolIdAndSerial : Prop :=
  ∀ s : State, s.pend = true → s.fkind = false →
    exec .rdToolId s = .next (answered s (slice32 s 1 0 7 <<< 5 ||| slice32 s 2 2 5)) ∧
    exec .rdSerial s = .next (answered s
      (slice32 s 2 0 2 <<< 30 ||| slice32 s 3 0 7 <<< 23 ||| slice32 s 4 0 7 <<< 16 ||| slice32 s 5 0 7 <<< 9
        ||| slice32 s 6 0 7 <<< 2 ||| slice32 s 7 5 2))

/-- The 13 field registers read 0 unless a binary frame is pending (R29, R40, R117). -/
def Obligations.FieldsReadZeroWithoutBinaryFrame : Prop :=
  ∀ s : State, ¬ (s.pend = true ∧ s.fkind = false) →
    exec .rdPosX s = .next (answered s 0) ∧ exec .rdPosY s = .next (answered s 0) ∧
    exec .rdPressure s = .next (answered s 0) ∧ exec .rdTiltX s = .next (answered s 0) ∧
    exec .rdTiltY s = .next (answered s 0) ∧ exec .rdTiltXb s = .next (answered s 0) ∧
    exec .rdTiltYb s = .next (answered s 0) ∧ exec .rdThrottle s = .next (answered s 0) ∧
    exec .rdRelWheel s = .next (answered s 0) ∧ exec .rdRotRaw s = .next (answered s 0) ∧
    exec .rdRotAngle s = .next (answered s 0) ∧ exec .rdToolId s = .next (answered s 0) ∧
    exec .rdSerial s = .next (answered s 0)

/-- The classification table reads as seven constants (R41). -/
def Obligations.ReadClsRows : Prop :=
  ∀ s : State,
    exec .rdClsRow0 s = .next (answered s 0x0001C0FC) ∧ exec .rdClsRow1 s = .next (answered s 0x000280FE) ∧
    exec .rdClsRow2 s = .next (answered s 0x0003A0B8) ∧ exec .rdClsRow3 s = .next (answered s 0x0003B4BE) ∧
    exec .rdClsRow4 s = .next (answered s 0x0004A8BE) ∧ exec .rdClsRow5 s = .next (answered s 0x0004B0BE) ∧
    exec .rdClsRow6 s = .next (answered s 0x0005AABE)

/-- RD FRAME[i] reads the buffer at all times, 0 from BUF_CAP on, and 0 past a pending frame's length (R42, R161,
R31). -/
def Obligations.ReadFrameWindow : Prop :=
  (∀ (s : State) (i : BitVec 6),
    (i.toNat < s.params.bufCap → exec (.rdFrame i) s = .next (answered s ((byteAt s i.toNat).setWidth 32))) ∧
    (s.params.bufCap ≤ i.toNat → exec (.rdFrame i) s = .next (answered s 0))) ∧
  (∀ (s : State) (i : BitVec 6), Inv s → s.pend = true →
    (s.flen ≤ i.toNat ∨ (s.fkind = true ∧ i.toNat + 1 = s.flen)) → exec (.rdFrame i) s = .next (answered s 0))

/-- A READ of a reserved word offset reads 0 and is no error (R43, R162). -/
def Obligations.ReadReserved : Prop :=
  ∀ (s : State) (i : Instr), i ∈ reservedReads → exec i s = .next (answered s 0)

/-- What the classifier puts out for a header of each row, a binary frame being pending (R103, R104, R105, R106, R107,
R108, R109, R112, R113, R114, R110). -/
def Obligations.HeaderRowOutputs : Prop :=
  ∀ s : State, s.pend = true → s.fkind = false →
    (∀ x1 ch, ∃ h : Byte, encode (.pktRow0DeviceId x1 ch) = .header h ∧ h &&& 0xFC#8 = 0xC0#8 ∧
      exec (.pktRow0DeviceId x1 ch) s = .next { s with cls :=
        { kind := 1, row := 0, ch := h.getLsbD 0, prox := false, sec := decide (h &&& s.params.secMask ≠ 0),
          hdr := h } }) ∧
    (∀ ch, ∃ h : Byte, encode (.pktRow1OutOfProx ch) = .header h ∧ h &&& 0xFE#8 = 0x80#8 ∧
      exec (.pktRow1OutOfProx ch) s = .next { s with cls :=
        { kind := 2, row := 1, ch := h.getLsbD 0, prox := false, sec := decide (h &&& s.params.secMask ≠ 0),
          hdr := h } }) ∧
    (∀ x6 x21 ch, ∃ h : Byte, encode (.pktRow2Stylus x6 x21 ch) = .header h ∧ h &&& 0xB8#8 = 0xA0#8 ∧
      exec (.pktRow2Stylus x6 x21 ch) s = .next { s with cls :=
        { kind := 3, row := 2, ch := h.getLsbD 0, prox := h.getLsbD s.params.proxBit, sec := decide (h &&& s.params.secMask ≠ 0),
          hdr := h } }) ∧
    (∀ x6 ch, ∃ h : Byte, encode (.pktRow3Stylus x6 ch) = .header h ∧ h &&& 0xBE#8 = 0xB4#8 ∧
      exec (.pktRow3Stylus x6 ch) s = .next { s with cls :=
        { kind := 3, row := 3, ch := h.getLsbD 0, prox := h.getLsbD s.params.proxBit, sec := decide (h &&& s.params.secMask ≠ 0),
          hdr := h } }) ∧
    (∀ x6 ch, ∃ h : Byte, encode (.pktRow4Cursor1 x6 ch) = .header h ∧ h &&& 0xBE#8 = 0xA8#8 ∧
      exec (.pktRow4Cursor1 x6 ch) s = .next { s with cls :=
        { kind := 4, row := 4, ch := h.getLsbD 0, prox := h.getLsbD s.params.proxBit, sec := decide (h &&& s.params.secMask ≠ 0),
          hdr := h } }) ∧
    (∀ x6 ch, ∃ h : Byte, encode (.pktRow5Cursor1 x6 ch) = .header h ∧ h &&& 0xBE#8 = 0xB0#8 ∧
      exec (.pktRow5Cursor1 x6 ch) s = .next { s with cls :=
        { kind := 4, row := 5, ch := h.getLsbD 0, prox := h.getLsbD s.params.proxBit, sec := decide (h &&& s.params.secMask ≠ 0),
          hdr := h } }) ∧
    (∀ x6 ch, ∃ h : Byte, encode (.pktRow6Cursor2 x6 ch) = .header h ∧ h &&& 0xBE#8 = 0xAA#8 ∧
      exec (.pktRow6Cursor2 x6 ch) s = .next { s with cls :=
        { kind := 5, row := 6, ch := h.getLsbD 0, prox := h.getLsbD s.params.proxBit, sec := decide (h &&& s.params.secMask ≠ 0),
          hdr := h } })

/-- A header that matches no row is a legal frame of kind UNKNOWN (R69, R111, R112, R113, R114). -/
def Obligations.UnknownHeaderOutputs : Prop :=
  ∀ s : State, s.pend = true → s.fkind = false → ∀ mid ch, Instr.wf (.pktUnknown mid ch) = true →
    ∃ h : Byte, encode (.pktUnknown mid ch) = .header h ∧ h.getLsbD 7 = true ∧
      h &&& 0xFC#8 ≠ 0xC0#8 ∧ h &&& 0xFE#8 ≠ 0x80#8 ∧ h &&& 0xB8#8 ≠ 0xA0#8 ∧ h &&& 0xBE#8 ≠ 0xB4#8 ∧
      h &&& 0xBE#8 ≠ 0xA8#8 ∧ h &&& 0xBE#8 ≠ 0xB0#8 ∧ h &&& 0xBE#8 ≠ 0xAA#8 ∧
      exec (.pktUnknown mid ch) s = .next { s with cls :=
        { kind := 7, row := 7, ch := h.getLsbD 0, prox := false, sec := decide (h &&& s.params.secMask ≠ 0), hdr := h } }

/-- Without a pending binary frame the classifier puts out NONE (R101). -/
def Obligations.ClassifierInactiveWithoutBinaryFrame : Prop :=
  ∀ s : State, ¬ (s.pend = true ∧ s.fkind = false) →
    (∀ (i : Instr) (h : Byte), decode (.header h) = .instr i →
      exec i s = .next { s with cls := { kind := 0, row := 7, ch := false, prox := false, sec := false, hdr := 0 } }) ∧
    (∀ rest, s.inputs = .classify :: rest →
      step s = .next { s with
        cls := { kind := 0, row := 7, ch := false, prox := false, sec := false, hdr := 0 }, inputs := rest })

/-- The header decoder and the table search agree: what an observed classifier puts out is what RD PKT reads (its
field is the model's: log 7) (R39, R101, R111, R146). -/
def Obligations.ClassifierAgreesWithPkt : Prop :=
  ∀ (s : State) (rest : List Input), s.inputs = .classify :: rest →
    ∃ t v, step s = .next t ∧ t = { s with cls := t.cls, inputs := rest } ∧
      exec .rdPkt t = .next (answered t v) ∧ exec .rdPkt s = .next (answered s v) ∧
      v.extractLsb' 0 3 = t.cls.kind ∧ v.extractLsb' 3 3 = t.cls.row ∧ v.getLsbD 6 = t.cls.ch ∧
      v.getLsbD 7 = t.cls.prox ∧ v.getLsbD 8 = t.cls.sec ∧ v.extractLsb' 16 8 = t.cls.hdr

/-- No header matches two rows; 38 match one and 90 with bit 7 set match none (R115). -/
def Obligations.RowsAreDisjoint : Prop :=
  (∀ h : Byte, (clsTable.filter fun r => r.holds h).length ≤ 1) ∧
  ((List.range 256).filter fun n => (classify (BitVec.ofNat 8 n)).1 != 7).length = 38 ∧
  ((List.range 256).filter fun n => 128 ≤ n && (classify (BitVec.ofNat 8 n)).1 == 7).length = 90

/-- The state after reset (R44). -/
def Obligations.ResetValues : Prop :=
  (∀ i, byteAt State.reset i = 0) ∧ State.reset.idx = 0 ∧ State.reset.pend = false ∧ State.reset.fkind = false ∧
    State.reset.flen = 0 ∧ State.reset.evOvf = false ∧ State.reset.evRsy = false ∧ State.reset.ie = 0 ∧
    mode State.reset = .unknown ∧ inReady State.reset = true ∧ validBin State.reset = false ∧ irq State.reset = false

/-- The reset state has the invariant (R31, R44). -/
def Obligations.ResetSatisfiesInvariant : Prop :=
  Inv State.reset

/-- Every step keeps the invariants of R31 (R31, R93, R98). -/
def Obligations.StepKeepsInvariant : Prop :=
  ∀ s t : State, Inv s → step s = .next t → Inv t

/-- A pending frame stays as it is until ACK, SRST or reset (R58). -/
def Obligations.FrameHeldWhilePending : Prop :=
  ∀ s t : State, s.pend = true → step s = .next t → t.pend = true →
    t.buf = s.buf ∧ t.fkind = s.fkind ∧ t.flen = s.flen ∧ t.idx = s.idx ∧
      ∀ i : Instr, (i ∈ [.rdPkt, .rdPosX, .rdPosY, .rdPressure, .rdTiltX, .rdTiltY, .rdTiltXb, .rdTiltYb, .rdThrottle,
          .rdRelWheel, .rdRotRaw, .rdRotAngle, .rdToolId, .rdSerial] ∨ ∃ k, i = .rdFrame k) →
        ∃ v, exec i s = .next (answered s v) ∧ exec i t = .next (answered t v)

/-- PEND falls only by a write to CTRL with ACK or SRST, or by reset (R21, R172). -/
def Obligations.PendFallsOnlyByReleaseOrReset : Prop :=
  ∀ s t : State, s.pend = true → step s = .next t → t.pend = false →
      (∃ rest, (∃ p, s.inputs = .cycle p :: rest ∧ p.rst = true) ∨
        (∃ v, (v.getLsbD 0 = true ∨ v.getLsbD 1 = true) ∧
          ((∃ p b, s.inputs = .cycle p :: rest ∧ p.bus = some b ∧ b.we = true ∧ b.size = 2 ∧ b.addr = 0x008 ∧ b.wdata = v) ∨
           s.inputs = .text 0x8100 (some v) :: rest)))

/-- An event flag falls only by its own W1C bit, by SRST or by reset (R24, R25, R172). -/
def Obligations.EventsFallOnlyByClearOrReset : Prop :=
  ∀ s t : State, step s = .next t →
    (s.evOvf = true → t.evOvf = false →
      (∃ rest, (∃ p, s.inputs = .cycle p :: rest ∧ p.rst = true) ∨
        (∃ v, v.getLsbD 0 = true ∧
          ((∃ p b, s.inputs = .cycle p :: rest ∧ p.bus = some b ∧ b.we = true ∧ b.size = 2 ∧ b.addr = 0x00C ∧ b.wdata = v) ∨
           s.inputs = .text 0x8180 (some v) :: rest))) ∨
      (∃ rest, (∃ p, s.inputs = .cycle p :: rest ∧ p.rst = true) ∨
        (∃ v, v.getLsbD 1 = true ∧
          ((∃ p b, s.inputs = .cycle p :: rest ∧ p.bus = some b ∧ b.we = true ∧ b.size = 2 ∧ b.addr = 0x008 ∧ b.wdata = v) ∨
           s.inputs = .text 0x8100 (some v) :: rest)))) ∧
    (s.evRsy = true → t.evRsy = false →
      (∃ rest, (∃ p, s.inputs = .cycle p :: rest ∧ p.rst = true) ∨
        (∃ v, v.getLsbD 1 = true ∧
          ((∃ p b, s.inputs = .cycle p :: rest ∧ p.bus = some b ∧ b.we = true ∧ b.size = 2 ∧ b.addr = 0x00C ∧ b.wdata = v) ∨
           s.inputs = .text 0x8180 (some v) :: rest))) ∨
      (∃ rest, (∃ p, s.inputs = .cycle p :: rest ∧ p.rst = true) ∨
        (∃ v, v.getLsbD 1 = true ∧
          ((∃ p b, s.inputs = .cycle p :: rest ∧ p.bus = some b ∧ b.we = true ∧ b.size = 2 ∧ b.addr = 0x008 ∧ b.wdata = v) ∨
           s.inputs = .text 0x8100 (some v) :: rest))))

/-- IE changes only by a write to IRQ_EN or by reset (R26, R143, R185). -/
def Obligations.EnablesChangeOnlyByIrqEn : Prop :=
  ∀ s t : State, step s = .next t → t.ie ≠ s.ie →
      (∃ rest, (∃ p, s.inputs = .cycle p :: rest ∧ p.rst = true ∧ t.ie = 0) ∨
        (∃ v, t.ie = v.extractLsb' 0 3 ∧
          ((∃ p b, s.inputs = .cycle p :: rest ∧ p.bus = some b ∧ b.we = true ∧ b.size = 2 ∧ b.addr = 0x010 ∧ b.wdata = v) ∨
           s.inputs = .text 0x8200 (some v) :: rest)))

/-- No step changes the parameters of the instance (R33, R45). -/
def Obligations.ParametersNeverChange : Prop :=
  ∀ s t : State, step s = .next t → t.params = s.params

/-- An event raised in the cycle that clears it stays set (R142, R167, R193). -/
def Obligations.EventSetWinsOverClear : Prop :=
  ∀ (s : State) (v : Word) (b : Byte) (rest : List Input),
    s.inputs =
      .cycle { rst := false, byte := some b, bus := some { we := true, addr := 0x00C, size := 2, wdata := v } } :: rest → s.pend = false →
    (b.getLsbD 7 = false → s.idx = s.params.bufCap → ∃ t, step s = .next t ∧ t.evOvf = true ∧ t.out.accepted = true) ∧
    (b.getLsbD 7 = true → s.idx ≠ 0 → ∃ t, step s = .next t ∧ t.evRsy = true ∧ t.out.accepted = true)

/-- A byte offered in the SRST cycle becomes byte 0 if PEND was 0, and waits if PEND was 1 (R141, R167, R186). -/
def Obligations.ByteInSoftResetCycle : Prop :=
  ∀ (s : State) (v : Word) (b : Byte) (rest : List Input),
    s.inputs =
      .cycle { rst := false, byte := some b, bus := some { we := true, addr := 0x008, size := 2, wdata := v } } :: rest → v.getLsbD 1 = true → b ≠ 0x0D →
    ∃ t, step s = .next t ∧ t.pend = false ∧ t.ie = s.ie ∧ t.evOvf = false ∧ t.evRsy = false ∧ t.inputs = rest ∧
      (s.pend = false → t.out.accepted = true ∧ t.idx = 1 ∧ ∀ i, byteAt t i = if i = 0 then b else 0) ∧
      (s.pend = true → t.out.accepted = false ∧ t.idx = 0 ∧ ∀ i, byteAt t i = 0)

/-- A byte offered in the cycle of the ACK is not accepted; one offered in the next cycle is (R141, R167, R198). -/
def Obligations.ByteInAckCycleWaits : Prop :=
  ∀ (s : State) (b : Byte) (rest : List Input), s.pend = true →
    s.inputs =
      .cycle { rst := false, byte := some b, bus := some { we := true, addr := 0x008, size := 2, wdata := 0x00000001 } } ::
      .cycle { rst := false, byte := some b, bus := none } :: rest →
    ∃ t u, step s = .next t ∧ t.pend = false ∧ t.idx = 0 ∧ (∀ i, byteAt t i = 0) ∧ t.out.accepted = false ∧
      t.out.inReady = false ∧ step t = .next u ∧ u.out.accepted = true ∧ u.out.inReady = true ∧ u.inputs = rest
end

