-- ==== Sys2Proof/Laws/Memory.lean ====
section
/-! SUPPORT. The laws of the frame buffer: read after write, the canonical form and the bound are kept, and buffers in
canonical form that read alike are equal. -/

namespace Sys2Proof.Laws

open Sys2Proof Sys2Proof.Machine

@[simp] theorem read_nil (a : Nat) : Memory.read [] a = 0 := rfl

theorem wfFrom_mono {lo lo' : Nat} (h : lo' ≤ lo) : ∀ {m : Memory}, Memory.wfFrom lo m = true → Memory.wfFrom lo' m = true
  | [], _ => rfl
  | (a, v) :: m, hm => by
    simp only [Memory.wfFrom, Bool.and_eq_true, decide_eq_true_eq] at hm ⊢
    exact ⟨⟨by omega, hm.1.2⟩, hm.2⟩

theorem read_below_wfFrom {lo a : Nat} (h : a < lo) : ∀ {m : Memory}, Memory.wfFrom lo m = true → Memory.read m a = 0
  | [], _ => rfl
  | (b, v) :: m, hm => by
    simp only [Memory.wfFrom, Bool.and_eq_true, decide_eq_true_eq] at hm
    have : a ≠ b := by omega
    simp only [Memory.read, this, if_false]
    exact read_below_wfFrom (lo := b + 1) (by omega) hm.2

/-- A write is read back where it was made, and no other index reads otherwise than before. -/
theorem read_write {lo : Nat} : ∀ {m : Memory}, Memory.wfFrom lo m = true → ∀ (a : Nat) (v : Byte) (i : Nat),
    Memory.read (Memory.write m a v) i = if i = a then v else Memory.read m i
  | [], _, a, v, i => by
    unfold Memory.write
    split <;> by_cases hi : i = a <;> simp [Memory.read, *]
  | (b, w) :: m, hm, a, v, i => by
    simp only [Memory.wfFrom, Bool.and_eq_true, decide_eq_true_eq] at hm
    have tail : ∀ j, j ≤ b → Memory.read m j = 0 := fun j hj => read_below_wfFrom (lo := b + 1) (by omega) hm.2
    have ih := read_write hm.2 a v i
    unfold Memory.write
    split
    · rename_i hab
      have hia : i = a → i ≠ b := by omega
      split <;> by_cases hi : i = a
      · subst hi; simp [Memory.read, hia rfl, tail i (by omega), *]
      · simp [hi]
      · simp [Memory.read, hi]
      · simp [Memory.read, hi]
    · split
      · rename_i hab; subst hab
        split <;> by_cases hi : i = a
        · subst hi; simp [tail i (by omega), *]
        · simp [Memory.read, hi]
        · simp [Memory.read, hi]
        · simp [Memory.read, hi]
      · rename_i hlt hne
        by_cases hib : i = b
        · subst hib
          have : i ≠ a := by omega
          simp [Memory.read, this]
        · simp [Memory.read, hib, ih]

/-- A write keeps the canonical form, above a bound that the index respects too. -/
theorem wfFrom_write {lo : Nat} : ∀ {m : Memory}, Memory.wfFrom lo m = true → ∀ {a : Nat} (v : Byte), lo ≤ a →
    Memory.wfFrom lo (Memory.write m a v) = true
  | [], _, a, v, h => by
    unfold Memory.write
    split <;> simp_all [Memory.wfFrom]
  | (b, w) :: m, hm, a, v, h => by
    have hm' := hm
    simp only [Memory.wfFrom, Bool.and_eq_true, decide_eq_true_eq] at hm'
    have hv : ¬ v = 0 → (v != 0) = true := by simp
    unfold Memory.write
    split
    · split
      · exact hm
      · rename_i hab hv0
        simp only [Memory.wfFrom, Bool.and_eq_true, decide_eq_true_eq]
        exact ⟨⟨h, hv hv0⟩, ⟨⟨by omega, hm'.1.2⟩, hm'.2⟩⟩
    · split
      · rename_i hab; subst hab
        split
        · exact wfFrom_mono (by omega) hm'.2
        · rename_i hv0
          simp only [Memory.wfFrom, Bool.and_eq_true, decide_eq_true_eq]
          exact ⟨⟨h, hv hv0⟩, hm'.2⟩
      · rename_i hlt hne
        simp only [Memory.wfFrom, Bool.and_eq_true, decide_eq_true_eq]
        exact ⟨hm'.1, wfFrom_write hm'.2 v (by omega)⟩

theorem wf_nil : Memory.wf [] = true := rfl

theorem wf_write {m : Memory} (h : Memory.wf m = true) (a : Nat) (v : Byte) : Memory.wf (Memory.write m a v) = true :=
  wfFrom_write h v (Nat.zero_le a)

theorem below_write {cap : Nat} : ∀ {m : Memory}, Memory.below cap m = true → ∀ {a : Nat} (v : Byte), a < cap →
    Memory.below cap (Memory.write m a v) = true
  | [], _, a, v, h => by
    unfold Memory.write
    split <;> simp [Memory.below, h]
  | (b, w) :: m, hm, a, v, h => by
    have cons : ∀ {c : Nat} {u : Byte} {k : Memory}, c < cap → Memory.below cap k = true →
        Memory.below cap ((c, u) :: k) = true := by
      intro c u k hc hk
      simpa only [Memory.below, List.all_cons, Bool.and_eq_true, decide_eq_true_eq] using ⟨hc, hk⟩
    obtain ⟨hb, tl⟩ : b < cap ∧ Memory.below cap m = true := by
      simpa only [Memory.below, List.all_cons, Bool.and_eq_true, decide_eq_true_eq] using hm
    unfold Memory.write
    split
    · split
      · exact hm
      · exact cons h hm
    · split
      · split
        · exact tl
        · exact cons h tl
      · exact cons hb (below_write tl v h)

theorem read_outside {cap : Nat} : ∀ {m : Memory}, Memory.below cap m = true → ∀ {i : Nat}, cap ≤ i → Memory.read m i = 0
  | [], _, _, _ => rfl
  | (b, w) :: m, hm, i, hi => by
    simp only [Memory.below, List.all_cons, Bool.and_eq_true, decide_eq_true_eq] at hm
    have : i ≠ b := by omega
    simp only [Memory.read, this, if_false]
    exact read_outside (by simpa [Memory.below] using hm.2) hi

/-- Buffers in canonical form that read alike are the same data. -/
theorem memory_ext {lo : Nat} : ∀ {m n : Memory}, Memory.wfFrom lo m = true → Memory.wfFrom lo n = true →
    (∀ i, Memory.read m i = Memory.read n i) → m = n
  | [], [], _, _, _ => rfl
  | [], (b, w) :: n, _, hn, h => by
    simp only [Memory.wfFrom, Bool.and_eq_true, bne_iff_ne] at hn
    exact absurd (h b).symm (by simpa [Memory.read] using hn.1.2)
  | (a, v) :: m, [], hm, _, h => by
    simp only [Memory.wfFrom, Bool.and_eq_true, bne_iff_ne] at hm
    exact absurd (h a) (by simpa [Memory.read] using hm.1.2)
  | (a, v) :: m, (b, w) :: n, hm, hn, h => by
    simp only [Memory.wfFrom, Bool.and_eq_true, bne_iff_ne, decide_eq_true_eq] at hm hn
    have headless : ∀ {c j : Nat} {u : Byte} {k : Memory}, Memory.wfFrom (c + 1) k = true → j < c →
        Memory.read ((c, u) :: k) j = 0 := by
      intro c j u k hk hj
      have : j ≠ c := by omega
      simp only [Memory.read, this, if_false]
      exact read_below_wfFrom (lo := c + 1) (by omega) hk
    have hab : a = b := by
      rcases Nat.lt_trichotomy a b with hlt | heq | hgt
      · have := h a
        rw [headless hn.2 hlt] at this
        exact absurd this (by simpa [Memory.read] using hm.1.2)
      · exact heq
      · have := h b
        rw [headless hm.2 hgt] at this
        exact absurd this.symm (by simpa [Memory.read] using hn.1.2)
    subst hab
    have hvw : v = w := by simpa [Memory.read] using h a
    subst hvw
    have : m = n := memory_ext (lo := a + 1) hm.2 hn.2 (by
      intro i
      by_cases hi : i = a
      · subst hi
        rw [read_below_wfFrom (lo := i + 1) (by omega) hm.2, read_below_wfFrom (lo := i + 1) (by omega) hn.2]
      · simpa [Memory.read, hi] using h i)
    rw [this]

end Sys2Proof.Laws
end

