-- ==== Sys2Proof/Laws/State.lean ====
section
/-! SUPPORT. One lemma per field per update of the state, each true by rfl, so that no proof unfolds a record update. -/

namespace Sys2Proof.Laws

open Sys2Proof Sys2Proof.Machine

@[simp] theorem respond_params (v : Word) (e : Bool) (s : State) : (respond v e s).params = s.params := rfl
@[simp] theorem respond_buf (v : Word) (e : Bool) (s : State) : (respond v e s).buf = s.buf := rfl
@[simp] theorem respond_idx (v : Word) (e : Bool) (s : State) : (respond v e s).idx = s.idx := rfl
@[simp] theorem respond_pend (v : Word) (e : Bool) (s : State) : (respond v e s).pend = s.pend := rfl
@[simp] theorem respond_fkind (v : Word) (e : Bool) (s : State) : (respond v e s).fkind = s.fkind := rfl
@[simp] theorem respond_flen (v : Word) (e : Bool) (s : State) : (respond v e s).flen = s.flen := rfl
@[simp] theorem respond_evOvf (v : Word) (e : Bool) (s : State) : (respond v e s).evOvf = s.evOvf := rfl
@[simp] theorem respond_evRsy (v : Word) (e : Bool) (s : State) : (respond v e s).evRsy = s.evRsy := rfl
@[simp] theorem respond_ie (v : Word) (e : Bool) (s : State) : (respond v e s).ie = s.ie := rfl
@[simp] theorem respond_out (v : Word) (e : Bool) (s : State) : (respond v e s).out = { s.out with rdata := v, err := e } := rfl
@[simp] theorem respond_cls (v : Word) (e : Bool) (s : State) : (respond v e s).cls = s.cls := rfl
@[simp] theorem respond_inputs (v : Word) (e : Bool) (s : State) : (respond v e s).inputs = s.inputs := rfl

@[simp] theorem raiseBusError_params (s : State) : (raiseBusError s).params = s.params := rfl
@[simp] theorem raiseBusError_buf (s : State) : (raiseBusError s).buf = s.buf := rfl
@[simp] theorem raiseBusError_idx (s : State) : (raiseBusError s).idx = s.idx := rfl
@[simp] theorem raiseBusError_pend (s : State) : (raiseBusError s).pend = s.pend := rfl
@[simp] theorem raiseBusError_fkind (s : State) : (raiseBusError s).fkind = s.fkind := rfl
@[simp] theorem raiseBusError_flen (s : State) : (raiseBusError s).flen = s.flen := rfl
@[simp] theorem raiseBusError_evOvf (s : State) : (raiseBusError s).evOvf = s.evOvf := rfl
@[simp] theorem raiseBusError_evRsy (s : State) : (raiseBusError s).evRsy = s.evRsy := rfl
@[simp] theorem raiseBusError_ie (s : State) : (raiseBusError s).ie = s.ie := rfl
@[simp] theorem raiseBusError_out (s : State) : (raiseBusError s).out = { s.out with rdata := 0, err := true } := rfl
@[simp] theorem raiseBusError_cls (s : State) : (raiseBusError s).cls = s.cls := rfl
@[simp] theorem raiseBusError_inputs (s : State) : (raiseBusError s).inputs = s.inputs := rfl

@[simp] theorem handshake_params (a : Bool) (s : State) : (handshake a s).params = s.params := rfl
@[simp] theorem handshake_buf (a : Bool) (s : State) : (handshake a s).buf = s.buf := rfl
@[simp] theorem handshake_idx (a : Bool) (s : State) : (handshake a s).idx = s.idx := rfl
@[simp] theorem handshake_pend (a : Bool) (s : State) : (handshake a s).pend = s.pend := rfl
@[simp] theorem handshake_fkind (a : Bool) (s : State) : (handshake a s).fkind = s.fkind := rfl
@[simp] theorem handshake_flen (a : Bool) (s : State) : (handshake a s).flen = s.flen := rfl
@[simp] theorem handshake_evOvf (a : Bool) (s : State) : (handshake a s).evOvf = s.evOvf := rfl
@[simp] theorem handshake_evRsy (a : Bool) (s : State) : (handshake a s).evRsy = s.evRsy := rfl
@[simp] theorem handshake_ie (a : Bool) (s : State) : (handshake a s).ie = s.ie := rfl
@[simp] theorem handshake_out (a : Bool) (s : State) : (handshake a s).out = { s.out with accepted := a } := rfl
@[simp] theorem handshake_cls (a : Bool) (s : State) : (handshake a s).cls = s.cls := rfl
@[simp] theorem handshake_inputs (a : Bool) (s : State) : (handshake a s).inputs = s.inputs := rfl

@[simp] theorem beginCycle_params (s : State) : (beginCycle s).params = s.params := rfl
@[simp] theorem beginCycle_buf (s : State) : (beginCycle s).buf = s.buf := rfl
@[simp] theorem beginCycle_idx (s : State) : (beginCycle s).idx = s.idx := rfl
@[simp] theorem beginCycle_pend (s : State) : (beginCycle s).pend = s.pend := rfl
@[simp] theorem beginCycle_fkind (s : State) : (beginCycle s).fkind = s.fkind := rfl
@[simp] theorem beginCycle_flen (s : State) : (beginCycle s).flen = s.flen := rfl
@[simp] theorem beginCycle_evOvf (s : State) : (beginCycle s).evOvf = s.evOvf := rfl
@[simp] theorem beginCycle_evRsy (s : State) : (beginCycle s).evRsy = s.evRsy := rfl
@[simp] theorem beginCycle_ie (s : State) : (beginCycle s).ie = s.ie := rfl
@[simp] theorem beginCycle_out (s : State) : (beginCycle s).out = { rdata := 0, err := false, inReady := !s.pend, accepted := false } := rfl
@[simp] theorem beginCycle_cls (s : State) : (beginCycle s).cls = s.cls := rfl
@[simp] theorem beginCycle_inputs (s : State) : (beginCycle s).inputs = s.inputs := rfl

@[simp] theorem latchCls_params (c : ClsOut) (s : State) : (latchCls c s).params = s.params := rfl
@[simp] theorem latchCls_buf (c : ClsOut) (s : State) : (latchCls c s).buf = s.buf := rfl
@[simp] theorem latchCls_idx (c : ClsOut) (s : State) : (latchCls c s).idx = s.idx := rfl
@[simp] theorem latchCls_pend (c : ClsOut) (s : State) : (latchCls c s).pend = s.pend := rfl
@[simp] theorem latchCls_fkind (c : ClsOut) (s : State) : (latchCls c s).fkind = s.fkind := rfl
@[simp] theorem latchCls_flen (c : ClsOut) (s : State) : (latchCls c s).flen = s.flen := rfl
@[simp] theorem latchCls_evOvf (c : ClsOut) (s : State) : (latchCls c s).evOvf = s.evOvf := rfl
@[simp] theorem latchCls_evRsy (c : ClsOut) (s : State) : (latchCls c s).evRsy = s.evRsy := rfl
@[simp] theorem latchCls_ie (c : ClsOut) (s : State) : (latchCls c s).ie = s.ie := rfl
@[simp] theorem latchCls_out (c : ClsOut) (s : State) : (latchCls c s).out = s.out := rfl
@[simp] theorem latchCls_cls (c : ClsOut) (s : State) : (latchCls c s).cls = c := rfl
@[simp] theorem latchCls_inputs (c : ClsOut) (s : State) : (latchCls c s).inputs = s.inputs := rfl

@[simp] theorem popInput_params (s : State) : (popInput s).params = s.params := rfl
@[simp] theorem popInput_buf (s : State) : (popInput s).buf = s.buf := rfl
@[simp] theorem popInput_idx (s : State) : (popInput s).idx = s.idx := rfl
@[simp] theorem popInput_pend (s : State) : (popInput s).pend = s.pend := rfl
@[simp] theorem popInput_fkind (s : State) : (popInput s).fkind = s.fkind := rfl
@[simp] theorem popInput_flen (s : State) : (popInput s).flen = s.flen := rfl
@[simp] theorem popInput_evOvf (s : State) : (popInput s).evOvf = s.evOvf := rfl
@[simp] theorem popInput_evRsy (s : State) : (popInput s).evRsy = s.evRsy := rfl
@[simp] theorem popInput_ie (s : State) : (popInput s).ie = s.ie := rfl
@[simp] theorem popInput_out (s : State) : (popInput s).out = s.out := rfl
@[simp] theorem popInput_cls (s : State) : (popInput s).cls = s.cls := rfl
@[simp] theorem popInput_inputs (s : State) : (popInput s).inputs = s.inputs.tail := rfl

@[simp] theorem clear_params (s : State) : (clear s).params = s.params := rfl
@[simp] theorem clear_buf (s : State) : (clear s).buf = [] := rfl
@[simp] theorem clear_idx (s : State) : (clear s).idx = 0 := rfl
@[simp] theorem clear_pend (s : State) : (clear s).pend = s.pend := rfl
@[simp] theorem clear_fkind (s : State) : (clear s).fkind = s.fkind := rfl
@[simp] theorem clear_flen (s : State) : (clear s).flen = s.flen := rfl
@[simp] theorem clear_evOvf (s : State) : (clear s).evOvf = s.evOvf := rfl
@[simp] theorem clear_evRsy (s : State) : (clear s).evRsy = s.evRsy := rfl
@[simp] theorem clear_ie (s : State) : (clear s).ie = s.ie := rfl
@[simp] theorem clear_out (s : State) : (clear s).out = s.out := rfl
@[simp] theorem clear_cls (s : State) : (clear s).cls = s.cls := rfl
@[simp] theorem clear_inputs (s : State) : (clear s).inputs = s.inputs := rfl

@[simp] theorem release_params (s : State) : (release s).params = s.params := rfl
@[simp] theorem release_buf (s : State) : (release s).buf = [] := rfl
@[simp] theorem release_idx (s : State) : (release s).idx = 0 := rfl
@[simp] theorem release_pend (s : State) : (release s).pend = false := rfl
@[simp] theorem release_fkind (s : State) : (release s).fkind = false := rfl
@[simp] theorem release_flen (s : State) : (release s).flen = 0 := rfl
@[simp] theorem release_evOvf (s : State) : (release s).evOvf = s.evOvf := rfl
@[simp] theorem release_evRsy (s : State) : (release s).evRsy = s.evRsy := rfl
@[simp] theorem release_ie (s : State) : (release s).ie = s.ie := rfl
@[simp] theorem release_out (s : State) : (release s).out = s.out := rfl
@[simp] theorem release_cls (s : State) : (release s).cls = s.cls := rfl
@[simp] theorem release_inputs (s : State) : (release s).inputs = s.inputs := rfl

@[simp] theorem softReset_params (s : State) : (softReset s).params = s.params := rfl
@[simp] theorem softReset_buf (s : State) : (softReset s).buf = [] := rfl
@[simp] theorem softReset_idx (s : State) : (softReset s).idx = 0 := rfl
@[simp] theorem softReset_pend (s : State) : (softReset s).pend = false := rfl
@[simp] theorem softReset_fkind (s : State) : (softReset s).fkind = false := rfl
@[simp] theorem softReset_flen (s : State) : (softReset s).flen = 0 := rfl
@[simp] theorem softReset_evOvf (s : State) : (softReset s).evOvf = false := rfl
@[simp] theorem softReset_evRsy (s : State) : (softReset s).evRsy = false := rfl
@[simp] theorem softReset_ie (s : State) : (softReset s).ie = s.ie := rfl
@[simp] theorem softReset_out (s : State) : (softReset s).out = s.out := rfl
@[simp] theorem softReset_cls (s : State) : (softReset s).cls = s.cls := rfl
@[simp] theorem softReset_inputs (s : State) : (softReset s).inputs = s.inputs := rfl

@[simp] theorem writeEvents_params (v : Word) (s : State) : (writeEvents v s).params = s.params := rfl
@[simp] theorem writeEvents_buf (v : Word) (s : State) : (writeEvents v s).buf = s.buf := rfl
@[simp] theorem writeEvents_idx (v : Word) (s : State) : (writeEvents v s).idx = s.idx := rfl
@[simp] theorem writeEvents_pend (v : Word) (s : State) : (writeEvents v s).pend = s.pend := rfl
@[simp] theorem writeEvents_fkind (v : Word) (s : State) : (writeEvents v s).fkind = s.fkind := rfl
@[simp] theorem writeEvents_flen (v : Word) (s : State) : (writeEvents v s).flen = s.flen := rfl
@[simp] theorem writeEvents_evOvf (v : Word) (s : State) : (writeEvents v s).evOvf = (s.evOvf && !v.getLsbD 0) := rfl
@[simp] theorem writeEvents_evRsy (v : Word) (s : State) : (writeEvents v s).evRsy = (s.evRsy && !v.getLsbD 1) := rfl
@[simp] theorem writeEvents_ie (v : Word) (s : State) : (writeEvents v s).ie = s.ie := rfl
@[simp] theorem writeEvents_out (v : Word) (s : State) : (writeEvents v s).out = s.out := rfl
@[simp] theorem writeEvents_cls (v : Word) (s : State) : (writeEvents v s).cls = s.cls := rfl
@[simp] theorem writeEvents_inputs (v : Word) (s : State) : (writeEvents v s).inputs = s.inputs := rfl

@[simp] theorem writeIrqEn_params (v : Word) (s : State) : (writeIrqEn v s).params = s.params := rfl
@[simp] theorem writeIrqEn_buf (v : Word) (s : State) : (writeIrqEn v s).buf = s.buf := rfl
@[simp] theorem writeIrqEn_idx (v : Word) (s : State) : (writeIrqEn v s).idx = s.idx := rfl
@[simp] theorem writeIrqEn_pend (v : Word) (s : State) : (writeIrqEn v s).pend = s.pend := rfl
@[simp] theorem writeIrqEn_fkind (v : Word) (s : State) : (writeIrqEn v s).fkind = s.fkind := rfl
@[simp] theorem writeIrqEn_flen (v : Word) (s : State) : (writeIrqEn v s).flen = s.flen := rfl
@[simp] theorem writeIrqEn_evOvf (v : Word) (s : State) : (writeIrqEn v s).evOvf = s.evOvf := rfl
@[simp] theorem writeIrqEn_evRsy (v : Word) (s : State) : (writeIrqEn v s).evRsy = s.evRsy := rfl
@[simp] theorem writeIrqEn_ie (v : Word) (s : State) : (writeIrqEn v s).ie = v.extractLsb' 0 3 := rfl
@[simp] theorem writeIrqEn_out (v : Word) (s : State) : (writeIrqEn v s).out = s.out := rfl
@[simp] theorem writeIrqEn_cls (v : Word) (s : State) : (writeIrqEn v s).cls = s.cls := rfl
@[simp] theorem writeIrqEn_inputs (v : Word) (s : State) : (writeIrqEn v s).inputs = s.inputs := rfl

@[simp] theorem deliver_params (a : Bool) (n : Nat) (s : State) : (deliver a n s).params = s.params := rfl
@[simp] theorem deliver_buf (a : Bool) (n : Nat) (s : State) : (deliver a n s).buf = s.buf := rfl
@[simp] theorem deliver_idx (a : Bool) (n : Nat) (s : State) : (deliver a n s).idx = 0 := rfl
@[simp] theorem deliver_pend (a : Bool) (n : Nat) (s : State) : (deliver a n s).pend = true := rfl
@[simp] theorem deliver_fkind (a : Bool) (n : Nat) (s : State) : (deliver a n s).fkind = a := rfl
@[simp] theorem deliver_flen (a : Bool) (n : Nat) (s : State) : (deliver a n s).flen = n := rfl
@[simp] theorem deliver_evOvf (a : Bool) (n : Nat) (s : State) : (deliver a n s).evOvf = s.evOvf := rfl
@[simp] theorem deliver_evRsy (a : Bool) (n : Nat) (s : State) : (deliver a n s).evRsy = s.evRsy := rfl
@[simp] theorem deliver_ie (a : Bool) (n : Nat) (s : State) : (deliver a n s).ie = s.ie := rfl
@[simp] theorem deliver_out (a : Bool) (n : Nat) (s : State) : (deliver a n s).out = s.out := rfl
@[simp] theorem deliver_cls (a : Bool) (n : Nat) (s : State) : (deliver a n s).cls = s.cls := rfl
@[simp] theorem deliver_inputs (a : Bool) (n : Nat) (s : State) : (deliver a n s).inputs = s.inputs := rfl

@[simp] theorem resetCycle_params (p : Bool) (s : State) : (resetCycle p s).params = s.params := rfl
@[simp] theorem resetCycle_buf (p : Bool) (s : State) : (resetCycle p s).buf = [] := rfl
@[simp] theorem resetCycle_idx (p : Bool) (s : State) : (resetCycle p s).idx = 0 := rfl
@[simp] theorem resetCycle_pend (p : Bool) (s : State) : (resetCycle p s).pend = false := rfl
@[simp] theorem resetCycle_fkind (p : Bool) (s : State) : (resetCycle p s).fkind = false := rfl
@[simp] theorem resetCycle_flen (p : Bool) (s : State) : (resetCycle p s).flen = 0 := rfl
@[simp] theorem resetCycle_evOvf (p : Bool) (s : State) : (resetCycle p s).evOvf = false := rfl
@[simp] theorem resetCycle_evRsy (p : Bool) (s : State) : (resetCycle p s).evRsy = false := rfl
@[simp] theorem resetCycle_ie (p : Bool) (s : State) : (resetCycle p s).ie = 0 := rfl
@[simp] theorem resetCycle_out (p : Bool) (s : State) : (resetCycle p s).out = { rdata := 0, err := p, inReady := false, accepted := false } := rfl
@[simp] theorem resetCycle_cls (p : Bool) (s : State) : (resetCycle p s).cls = ClsOut.inactive := rfl
@[simp] theorem resetCycle_inputs (p : Bool) (s : State) : (resetCycle p s).inputs = s.inputs := rfl

end Sys2Proof.Laws
end

