-- ==== Sys2Proof/Laws/Ops.lean ====
section
/-! SUPPORT. What each shared operation can do, said once: the parameters' bounds, MemWrite, the steps of PUSH, WR CTRL,
and the joins of outcomes. -/

namespace Sys2Proof.Laws

open Sys2Proof Sys2Proof.Machine

theorem bufCap_bounds (p : Params) : 9 ≤ p.bufCap ∧ p.bufCap ≤ 64 := by
  have := p.capOverNine.isLt
  unfold Params.bufCap; omega

theorem proxBit_bounds (p : Params) : 1 ≤ p.proxBit ∧ p.proxBit ≤ 6 := by
  have := p.proxOverOne.isLt
  unfold Params.proxBit; omega

theorem memWrite_of_lt {i : Nat} {s : State} (v : Byte) (h : i < s.params.bufCap) :
    memWrite i v s = some { s with buf := Memory.write s.buf i v } := by
  simp [memWrite, h]

theorem memWrite_eq_some {i : Nat} {v : Byte} {s t : State} (h : memWrite i v s = some t) :
    i < s.params.bufCap ∧ t = { s with buf := Memory.write s.buf i v } := by
  unfold memWrite at h
  split at h
  · exact ⟨‹_›, by simpa using h.symm⟩
  · cases h

/-- Steps 1 and 2: a high byte clears, a full buffer clears, anything else changes nothing. -/
theorem pushRestart_cases (b : Byte) (s : State) :
    (b.getLsbD 7 = true ∧ pushRestart b s = clear { s with evRsy := s.evRsy || s.idx != 0 }) ∨
    (b.getLsbD 7 = false ∧ s.idx = s.params.bufCap ∧ pushRestart b s = clear { s with evOvf := true }) ∨
    (b.getLsbD 7 = false ∧ s.idx ≠ s.params.bufCap ∧ pushRestart b s = s) := by
  unfold pushRestart
  cases hb : b.getLsbD 7 <;> by_cases hi : s.idx = s.params.bufCap <;> simp [hi]

/-- After steps 1 and 2 the write index is in range (R88). -/
theorem pushRestart_idx_lt {b : Byte} {s : State} (h : s.idx ≤ s.params.bufCap) :
    (pushRestart b s).idx < (pushRestart b s).params.bufCap := by
  have := bufCap_bounds s.params
  rcases pushRestart_cases b s with ⟨-, h1⟩ | ⟨-, -, h1⟩ | ⟨-, h2, h1⟩ <;> rw [h1] <;> simp <;> omega

/-- Step 3, with room. -/
theorem pushAppend_of_lt {s : State} (b : Byte) (h : s.idx < s.params.bufCap) :
    pushAppend b s = some { s with buf := Memory.write s.buf s.idx b, idx := s.idx + 1 } := by
  simp [pushAppend, memWrite_of_lt b h]

/-- Steps 4 and 5, on a state whose last byte has just been appended. -/
theorem pushComplete_cases (b : Byte) {s : State} (h : s.idx - 1 < s.params.bufCap) :
    (s.idx = 9 ∧ binaryStart s = true ∧ pushComplete b s = some (deliver false 9 s)) ∨
    (b = 0x0D ∧ binaryStart s = false ∧
      pushComplete b s = some (deliver true s.idx { s with buf := Memory.write s.buf (s.idx - 1) 0 })) ∨
    (¬ (s.idx = 9 ∧ binaryStart s = true) ∧ ¬ (b = 0x0D ∧ binaryStart s = false) ∧ pushComplete b s = some s) := by
  unfold pushComplete
  by_cases h4 : s.idx = binLen ∧ binaryStart s = true
  · exact .inl ⟨h4.1, h4.2, by simp [h4, binLen]⟩
  · by_cases h5 : b = term ∧ binaryStart s = false
    · exact .inr (.inl ⟨h5.1, h5.2, by rw [if_neg h4, if_pos h5, memWrite_of_lt nul h]; rfl⟩)
    · exact .inr (.inr ⟨h4, h5, by rw [if_neg h4, if_neg h5]⟩)

/-- With the write index in range PUSH never runs out of the buffer (R88). -/
theorem framerPush_isSome {b : Byte} {s : State} (h : s.idx ≤ s.params.bufCap) : ∃ t, framerPush b s = some t := by
  have hlt := pushRestart_idx_lt (b := b) h
  unfold framerPush
  rw [pushAppend_of_lt b hlt]
  rcases pushComplete_cases b (s := { pushRestart b s with
      buf := Memory.write (pushRestart b s).buf (pushRestart b s).idx b, idx := (pushRestart b s).idx + 1 })
    (by simpa using hlt) with ⟨-, -, h1⟩ | ⟨-, -, h1⟩ | ⟨-, -, h1⟩ <;> exact ⟨_, h1⟩

/-- What a PUSH that answers has done: the steps, with the buffer's bytes. -/
theorem framerPush_cases {b : Byte} {s t : State} (h : framerPush b s = some t) :
    ∃ r, r = pushRestart b s ∧ r.idx < r.params.bufCap ∧
      ∃ a : State, a = { r with buf := Memory.write r.buf r.idx b, idx := r.idx + 1 } ∧
        ((a.idx = 9 ∧ binaryStart a = true ∧ t = deliver false 9 a) ∨
         (b = 0x0D ∧ binaryStart a = false ∧ t = deliver true a.idx { a with buf := Memory.write a.buf (a.idx - 1) 0 }) ∨
         (¬ (a.idx = 9 ∧ binaryStart a = true) ∧ ¬ (b = 0x0D ∧ binaryStart a = false) ∧ t = a)) := by
  refine ⟨pushRestart b s, rfl, ?_⟩
  by_cases hlt : (pushRestart b s).idx < (pushRestart b s).params.bufCap
  · refine ⟨hlt, _, rfl, ?_⟩
    unfold framerPush at h
    rw [pushAppend_of_lt b hlt] at h
    simp only [Option.bind_some] at h
    rcases pushComplete_cases b (s := { pushRestart b s with
        buf := Memory.write (pushRestart b s).buf (pushRestart b s).idx b, idx := (pushRestart b s).idx + 1 })
      (by simpa using hlt) with ⟨h1, h2, h3⟩ | ⟨h1, h2, h3⟩ | ⟨h1, h2, h3⟩ <;> rw [h3] at h
    · exact .inl ⟨h1, h2, by simpa using h.symm⟩
    · exact .inr (.inl ⟨h1, h2, by simpa using h.symm⟩)
    · exact .inr (.inr ⟨h1, h2, by simpa using h.symm⟩)
  · exfalso
    simp [framerPush, pushAppend, memWrite, hlt] at h

/-- WR CTRL: SRST, ACK of a pending frame, or nothing. -/
theorem writeCtrl_cases (v : Word) (s : State) :
    (v.getLsbD 1 = true ∧ writeCtrl v s = softReset s) ∨
    (v.getLsbD 1 = false ∧ v.getLsbD 0 = true ∧ s.pend = true ∧ writeCtrl v s = release s) ∨
    (v.getLsbD 1 = false ∧ (v.getLsbD 0 = false ∨ s.pend = false) ∧ writeCtrl v s = s) := by
  unfold writeCtrl
  cases v.getLsbD 1 <;> cases v.getLsbD 0 <;> cases s.pend <;> simp

theorem andThen_eq_next {o : Result} {f : State → Result} {t : State} (h : andThen o f = .next t) :
    ∃ s, o = .next s ∧ f s = .next t := by
  cases o with
  | next s => exact ⟨s, rfl, h⟩
  | fault r => cases h
  | refused r => cases h

theorem mapNext_eq_next {o : Result} {f : State → State} {t : State} (h : mapNext o f = .next t) :
    ∃ s, o = .next s ∧ f s = t := by
  obtain ⟨s, h1, h2⟩ := andThen_eq_next h
  exact ⟨s, h1, by simpa using h2⟩

@[simp] theorem andThen_next (s : State) (f : State → Result) : andThen (.next s) f = f s := rfl

@[simp] theorem mapNext_next (s : State) (f : State → State) : mapNext (.next s) f = .next (f s) := rfl

end Sys2Proof.Laws
end

