-- ==== Sys2Proof/Laws/Exec.lean ====
section
/-! SUPPORT. What exec and step can do, said once. -/

namespace Sys2Proof.Laws

open Sys2Proof Sys2Proof.Machine

/-- Every instruction but PUSH answers a next state: the four bus writes and reads, the bus error, a header row. -/
theorem exec_of_not_push (i : Instr) (s : State) (h : isPush i = false) :
    ∃ t, exec i s = .next t ∧
      (t = { s with out := t.out, cls := t.cls } ∨
       (∃ v, i = .wrCtrl v ∧ t = respond 0 false (writeCtrl v s)) ∨
       (∃ v, i = .wrEvents v ∧ t = respond 0 false (writeEvents v s)) ∨
       (∃ v, i = .wrIrqEn v ∧ t = respond 0 false (writeIrqEn v s))) := by
  cases i
  case push b => cases h
  case wrCtrl v => exact ⟨_, rfl, .inr (.inl ⟨v, rfl, rfl⟩)⟩
  case wrEvents v => exact ⟨_, rfl, .inr (.inr (.inl ⟨v, rfl, rfl⟩))⟩
  case wrIrqEn v => exact ⟨_, rfl, .inr (.inr (.inr ⟨v, rfl, rfl⟩))⟩
  all_goals exact ⟨_, rfl, .inl rfl⟩

/-- What a PUSH that answers has done. -/
theorem exec_push_eq_next {b : Byte} {s t : State} (h : exec (.push b) s = .next t) :
    (s.pend = true ∧ t = handshake false s) ∨
    (s.pend = false ∧ ∃ u, framerPush b s = some u ∧ t = handshake true u) := by
  change execPush b s = .next t at h
  unfold execPush at h
  cases hp : s.pend
  · simp only [hp] at h
    cases hf : framerPush b s with
    | none => simp [hf] at h
    | some u => exact .inr ⟨rfl, u, rfl, by simpa [hf] using h.symm⟩
  · exact .inl ⟨rfl, by simpa [hp] using h.symm⟩

/-- The descriptor of an offered byte is the PUSH of that byte (R70). -/
theorem decode_byteCode (b : Byte) : decode (byteCode b) = .instr (.push b) := by
  have h1 : (b.setWidth 16).extractLsb' 14 2 = 0b00 := by
    ext k hk; interval_cases k <;> simp [BitVec.getLsbD_of_ge]
  have h2 : (b.setWidth 16).extractLsb' 8 6 = 0 := by
    ext k hk; simp
  have h3 : (b.setWidth 16).extractLsb' 0 8 = b := by
    ext k hk; interval_cases k <;> simp
  simp only [decode, byteCode, decodeXact]
  rw [if_pos h1, if_pos h2, h3]

/-- The fields of a READ's or WRITE's descriptor: the class, the word offset, and zeros (R70). -/
theorem descr_fields (c : BitVec 2) (w : BitVec 7) (t : Descr) (ht : t = c.setWidth 16 <<< 14 ||| w.setWidth 16 <<< 7) :
    t.extractLsb' 14 2 = c ∧ t.extractLsb' 0 7 = 0 ∧ t.extractLsb' 7 7 = w := by
  subst ht
  refine ⟨?_, ?_, ?_⟩ <;> ext k hk <;> interval_cases k <;> simp [BitVec.getLsbD_of_ge]

/-- The instruction that a bus access is (R52, R70). -/
theorem decode_busCode (b : BusReq) :
    decode (busCode b) = .instr
      (if b.size = 2 ∧ b.addr.extractLsb' 0 2 = 0 then
        if b.we then decodeWrite b.wdata (b.addr.extractLsb' 2 7).toNat else decodeRead (b.addr.extractLsb' 2 7).toNat
      else .badacc) := by
  obtain ⟨r1, r2, r3⟩ := descr_fields 0b01 (b.addr.extractLsb' 2 7) _ rfl
  obtain ⟨w1, w2, w3⟩ := descr_fields 0b10 (b.addr.extractLsb' 2 7) _ rfl
  have r0 : (0x4000#16 : Descr) = (0b01 : BitVec 2).setWidth 16 <<< 14 := rfl
  have w0 : (0x8000#16 : Descr) = (0b10 : BitVec 2).setWidth 16 <<< 14 := rfl
  unfold busCode
  by_cases h : b.size = 2 ∧ b.addr.extractLsb' 0 2 = 0
  · rw [if_pos h, if_pos h]
    cases b.we
    · rw [r0, if_neg Bool.false_ne_true, if_neg Bool.false_ne_true]
      simp only [decode, decodeXact, r1, r2, r3]; rfl
    · rw [w0, if_pos rfl, if_pos rfl]
      simp only [decode, decodeXact, w1, w2, w3]; rfl
  · rw [if_neg h, if_neg h]; rfl

/-- A READ's instruction is no PUSH and no effective WRITE. -/
theorem decodeRead_cases (w : Nat) (s : State) :
    ∃ t, exec (decodeRead w) s = .next t ∧ t = { s with out := t.out } := by
  unfold decodeRead
  split <;> exact ⟨_, rfl, rfl⟩

/-- A WRITE's instruction: CTRL, EVENTS and IRQ_EN at offsets 2, 3 and 4, and no effect elsewhere (R54, R163). -/
theorem decodeWrite_cases (v : Word) (w : Nat) (s : State) :
    ∃ t, exec (decodeWrite v w) s = .next t ∧
      ((w = 2 ∧ t = respond 0 false (writeCtrl v s)) ∨ (w = 3 ∧ t = respond 0 false (writeEvents v s)) ∨
       (w = 4 ∧ t = respond 0 false (writeIrqEn v s)) ∨ (w ≠ 2 ∧ w ≠ 3 ∧ w ≠ 4 ∧ t = respond 0 false s)) := by
  unfold decodeWrite
  by_cases hw : w < 64
  · rw [if_pos hw]
    by_cases h2 : w = 2
    · subst h2; exact ⟨_, rfl, .inl ⟨rfl, rfl⟩⟩
    by_cases h3 : w = 3
    · subst h3; exact ⟨_, rfl, .inr (.inl ⟨rfl, rfl⟩)⟩
    by_cases h4 : w = 4
    · subst h4; exact ⟨_, rfl, .inr (.inr (.inl ⟨rfl, rfl⟩))⟩
    refine ⟨respond 0 false s, ?_, .inr (.inr (.inr ⟨h2, h3, h4, rfl⟩))⟩
    unfold decodeWriteLow
    split <;> first | rfl | contradiction
  · rw [if_neg hw]
    refine ⟨respond 0 false s, ?_, .inr (.inr (.inr ⟨by omega, by omega, by omega, rfl⟩))⟩
    unfold decodeWriteFrame
    split <;> rfl

/-- Where a WRITE without effect stands in the list of them. -/
theorem ignoredWrites_at (v : Word) (w : Nat) (h : w < 128) (h2 : w ≠ 2) (h3 : w ≠ 3) (h4 : w ≠ 4) :
    (ignoredWrites v)[if w < 2 then w else w - 3]? = some (decodeWrite v w) := by
  interval_cases w <;> first | rfl | contradiction

theorem mem_ignoredWrites (v : Word) {w : Nat} (h : w < 128) (h2 : w ≠ 2) (h3 : w ≠ 3) (h4 : w ≠ 4) :
    decodeWrite v w ∈ ignoredWrites v :=
  List.mem_of_getElem? (ignoredWrites_at v w h h2 h3 h4)

end Sys2Proof.Laws
end

