-- ==== Sys2Proof/Machine/Asm.lean ====
section
/-! DEFINITION. Program text: a line for each transaction, and the pseudo-instructions' expansions (R75, R76). The
result is a list of inputs, in the order in which they are issued. -/

namespace Sys2Proof.Machine

/-- The line of a transaction: its descriptor and payload (R70, R75). A header row is not program text. -/
def line (i : Instr) : List Input :=
  match encode i with
  | .xact t payload => [.text t payload]
  | .header _ => []

/-- `RD @offset` and `WR @offset, imm32` of a word-aligned offset, which is word offset `w` (R75). -/
def rdAt (w : BitVec 7) : List Input := [.text (0x4000#16 ||| w.setWidth 16 <<< 7) none]
def wrAt (w : BitVec 7) (v : Word) : List Input := [.text (0x8000#16 ||| w.setWidth 16 <<< 7) (some v)]

/-- `ACK`, `SRST` and `CLREV` (R76). -/
def ack : List Input := line (.wrCtrl 0x00000001)
def srst : List Input := line (.wrCtrl 0x00000002)
def clrev : List Input := line (.wrEvents 0x00000003)

/-- `PUSHB b0, ..., bn` (R76). -/
def pushb (bs : List Byte) : List Input := bs.flatMap fun b => line (.push b)

/-- `PUSHS` of a text given as its characters: one PUSH of each ASCII code (R76, G3; PRESUMED: log 14).
A character of code point 128 or above has no ASCII code and the spec gives no byte for it: the model pushes the low 8 bits
of its code point (DESIGN CHOICE, unsafe: log 16). -/
def pushs (cs : List Char) : List Input := pushb (cs.map fun c => BitVec.ofNat 8 c.toNat)

/-- `PUSHL`: the text and the terminator (R76). -/
def pushl (cs : List Char) : List Input := pushs cs ++ line (.push term)

/-- `IDLE`: a cycle with no transaction (R76, R168). -/
def idle : List Input := [.cycle { rst := false, byte := none, bus := none }]

end Sys2Proof.Machine
end

