-- ==== Sys2Proof/Tests/Slice0.lean ====
section
/-! SUPPORT. The model's own tests. The expected words and values are those of spec/: the encodings of 30_encoding.md and
the vectors of 95_test_vectors.md, cited by their names there. The theorems `witness_<Name>` show a concrete state and
operands that meet the hypotheses of the statement `<Name>`. -/

namespace Sys2Proof.Tests

open Sys2Proof Sys2Proof.Machine

/-! Small states. -/

/-- The bytes from index `a` on, as a canonical buffer. -/
def fill : List Byte → Nat → Memory
  | [], _ => []
  | b :: bs, a => if b = 0 then fill bs (a + 1) else (a, b) :: fill bs (a + 1)

/-- These bytes are a pending frame. -/
def pending (ascii : Bool) (bs : List Byte) : State :=
  { State.reset with buf := fill bs 0, pend := true, fkind := ascii, flen := bs.length }

/-- These bytes are a partial frame. -/
def partially (bs : List Byte) : State := { State.reset with buf := fill bs 0, idx := bs.length }

/-- The inputs to come. -/
def queue (l : List Input) (s : State) : State := { s with inputs := l }

/-- The instance with BUF_CAP = 9. -/
def cap9 (s : State) : State := { s with params := { s.params with capOverNine := 0 } }

/-- A cycle with a byte and a 32-bit WRITE. -/
def byteAndWrite (b : Byte) (addr : BitVec 9) (v : Word) : Input :=
  .cycle { rst := false, byte := some b, bus := some { we := true, addr := addr, size := 2, wdata := v } }

/-- The next state, where there is one. -/
def next : Result → Option State
  | .next t => some t
  | _ => none

/-- `bus_rdata` after a transaction without error. -/
def rdata (o : Result) : Option Word := (next o).bind fun t => if t.out.err then none else some t.out.rdata

def f1 : State := pending false [0xC0, 1, 2, 3, 4, 5, 6, 7, 8]
def f2 : State := partially [0xA0, 1, 2, 3, 4, 5, 6, 7]
def f3 : State := { partially [0x81] with evRsy := true }
def f5 : State := pending true [0x7E, 0x23, 0]
def f13 : State := cap9 { partially [0x41] with evOvf := true }
def full9 : State := cap9 (partially [0x31, 0x32, 0x33, 0x34, 0x35, 0x36, 0x37, 0x38, 0x39])
def v2 : State := pending false [0xA0, 0x7F, 0x7F, 0x7F, 0x7F, 0x7F, 0x7F, 0x40, 0x3F]
def v3 : State := pending false [0xC0, 0x40, 0x48, 0x12, 0x34, 0x56, 0x78, 0x60, 0x00]
def v7 : State := pending false [0xE0, 0, 0, 0, 0, 0, 0, 0x7F, 0x41]

/-! Well-formedness: the one check, and an ill-formed term it refuses. Header 0xA0 is of row 2 (R105). -/

theorem test_wf_refuses_row2_header_as_unknown : Instr.wf (.pktUnknown 0x10 0) = false := by decide

theorem test_wf_admits_unknown_header : Instr.wf (.pktUnknown 0x19 0) = true := by decide

/-! Decoding: every word of the table (R68, R70, R72, R102). -/

theorem test_decode_push : decode (.xact 0x00C0 none) = .instr (.push 0xC0) := by decide

theorem test_decode_frame :
    (∀ p ∈ [(0x6000, .rdFrame 0), (0x7400, .rdFrame 40), (0x7F80, .rdFrame 63)],
      decode (.xact p.1 none) = .instr p.2) := by
  decide

theorem test_decode_badacc : decode (.xact 0xC000 none) = .instr .badacc := by decide

theorem test_decode_headers :
    ∀ p ∈ [(0xC3, .pktRow0DeviceId 1 1), (0x81, .pktRow1OutOfProx 1), (0xE5, .pktRow2Stylus 1 2 1),
        (0xF4, .pktRow3Stylus 1 0), (0xE8, .pktRow4Cursor1 1 0), (0xF1, .pktRow5Cursor1 1 1),
        (0xEB, .pktRow6Cursor2 1 1), (0xB2, .pktUnknown 0x19 0), (0xFF, .pktUnknown 0x3F 1)],
      decode (.header p.1) = .instr p.2 := by
  decide

theorem test_decode_rejects :
    decode (.xact 0x0100 none) = .reject (.reservedDescriptor 0x0100) ∧
    decode (.xact 0x4001 none) = .reject (.reservedDescriptor 0x4001) ∧
    decode (.xact 0x8140 (some 1)) = .reject (.reservedDescriptor 0x8140) ∧
    decode (.xact 0xC001 none) = .reject (.reservedDescriptor 0xC001) ∧
    decode (.xact 0x8100 none) = .reject (.payloadShape 0x8100) ∧
    decode (.xact 0x4080 (some 0)) = .reject (.payloadShape 0x4080) ∧
    decode (.header 0x7F) = .reject (.notHeader 0x7F) := by
  decide

theorem test_decode_reads_0 :
    ∀ p ∈ [
    (0x4000, .rdParam), (0x4080, .rdStatus), (0x4100, .rdCtrl), (0x4180, .rdEvents), (0x4200, .rdIrqEn),
    (0x4280, .rdIrqStatus), (0x4400, .rdPkt), (0x4480, .rdPosX), (0x4500, .rdPosY), (0x4580, .rdPressure),
    (0x4600, .rdTiltX), (0x4680, .rdTiltY), (0x4700, .rdTiltXb), (0x4780, .rdTiltYb), (0x4800, .rdThrottle),
    (0x4880, .rdRelWheel), (0x4900, .rdRotRaw), (0x4980, .rdRotAngle), (0x4A00, .rdToolId), (0x4A80, .rdSerial),
    (0x5000, .rdClsRow0), (0x5080, .rdClsRow1), (0x5100, .rdClsRow2), (0x5180, .rdClsRow3),
    (0x5200, .rdClsRow4), (0x5280, .rdClsRow5), (0x5300, .rdClsRow6), (0x4300, .rdRsvd018),
    (0x4380, .rdRsvd01C), (0x4B00, .rdRsvd058), (0x4B80, .rdRsvd05C), (0x4C00, .rdRsvd060)],
      decode (.xact p.1 none) = .instr p.2 := by
  decide

theorem test_decode_reads_1 :
    ∀ p ∈ [
    (0x4C80, .rdRsvd064), (0x4D00, .rdRsvd068), (0x4D80, .rdRsvd06C), (0x4E00, .rdRsvd070),
    (0x4E80, .rdRsvd074), (0x4F00, .rdRsvd078), (0x4F80, .rdRsvd07C), (0x5380, .rdRsvd09C),
    (0x5400, .rdRsvd0A0), (0x5480, .rdRsvd0A4), (0x5500, .rdRsvd0A8), (0x5580, .rdRsvd0AC),
    (0x5600, .rdRsvd0B0), (0x5680, .rdRsvd0B4), (0x5700, .rdRsvd0B8), (0x5780, .rdRsvd0BC),
    (0x5800, .rdRsvd0C0), (0x5880, .rdRsvd0C4), (0x5900, .rdRsvd0C8), (0x5980, .rdRsvd0CC),
    (0x5A00, .rdRsvd0D0), (0x5A80, .rdRsvd0D4), (0x5B00, .rdRsvd0D8), (0x5B80, .rdRsvd0DC),
    (0x5C00, .rdRsvd0E0), (0x5C80, .rdRsvd0E4), (0x5D00, .rdRsvd0E8), (0x5D80, .rdRsvd0EC),
    (0x5E00, .rdRsvd0F0), (0x5E80, .rdRsvd0F4), (0x5F00, .rdRsvd0F8), (0x5F80, .rdRsvd0FC)],
      decode (.xact p.1 none) = .instr p.2 := by
  decide

theorem test_decode_writes_0 :
    ∀ p ∈ [
    (0x8100, .wrCtrl 0x12345678), (0x8180, .wrEvents 0x12345678), (0x8200, .wrIrqEn 0x12345678),
    (0x8000, .wrParam 0x12345678), (0x8080, .wrStatus 0x12345678), (0x8280, .wrIrqStatus 0x12345678),
    (0x8300, .wrRsvd018 0x12345678), (0x8380, .wrRsvd01C 0x12345678), (0x8400, .wrPkt 0x12345678),
    (0x8480, .wrPosX 0x12345678), (0x8500, .wrPosY 0x12345678), (0x8580, .wrPressure 0x12345678),
    (0x8600, .wrTiltX 0x12345678), (0x8680, .wrTiltY 0x12345678), (0x8700, .wrTiltXb 0x12345678),
    (0x8780, .wrTiltYb 0x12345678), (0x8800, .wrThrottle 0x12345678), (0x8880, .wrRelWheel 0x12345678),
    (0x8900, .wrRotRaw 0x12345678), (0x8980, .wrRotAngle 0x12345678), (0x8A00, .wrToolId 0x12345678),
    (0x8A80, .wrSerial 0x12345678), (0x8B00, .wrRsvd058 0x12345678), (0x8B80, .wrRsvd05C 0x12345678),
    (0x8C00, .wrRsvd060 0x12345678), (0x8C80, .wrRsvd064 0x12345678), (0x8D00, .wrRsvd068 0x12345678),
    (0x8D80, .wrRsvd06C 0x12345678), (0x8E00, .wrRsvd070 0x12345678), (0x8E80, .wrRsvd074 0x12345678),
    (0x8F00, .wrRsvd078 0x12345678), (0x8F80, .wrRsvd07C 0x12345678)],
      decode (.xact p.1 (some 0x12345678)) = .instr p.2 := by
  decide

theorem test_decode_writes_1 :
    ∀ p ∈ [
    (0x9000, .wrClsRow0 0x12345678), (0x9080, .wrClsRow1 0x12345678), (0x9100, .wrClsRow2 0x12345678),
    (0x9180, .wrClsRow3 0x12345678), (0x9200, .wrClsRow4 0x12345678), (0x9280, .wrClsRow5 0x12345678),
    (0x9300, .wrClsRow6 0x12345678), (0x9380, .wrRsvd09C 0x12345678), (0x9400, .wrRsvd0A0 0x12345678),
    (0x9480, .wrRsvd0A4 0x12345678), (0x9500, .wrRsvd0A8 0x12345678), (0x9580, .wrRsvd0AC 0x12345678),
    (0x9600, .wrRsvd0B0 0x12345678), (0x9680, .wrRsvd0B4 0x12345678), (0x9700, .wrRsvd0B8 0x12345678),
    (0x9780, .wrRsvd0BC 0x12345678), (0x9800, .wrRsvd0C0 0x12345678), (0x9880, .wrRsvd0C4 0x12345678),
    (0x9900, .wrRsvd0C8 0x12345678), (0x9980, .wrRsvd0CC 0x12345678), (0x9A00, .wrRsvd0D0 0x12345678),
    (0x9A80, .wrRsvd0D4 0x12345678), (0x9B00, .wrRsvd0D8 0x12345678), (0x9B80, .wrRsvd0DC 0x12345678),
    (0x9C00, .wrRsvd0E0 0x12345678), (0x9C80, .wrRsvd0E4 0x12345678), (0x9D00, .wrRsvd0E8 0x12345678),
    (0x9D80, .wrRsvd0EC 0x12345678), (0x9E00, .wrRsvd0F0 0x12345678), (0x9E80, .wrRsvd0F4 0x12345678),
    (0x9F00, .wrRsvd0F8 0x12345678), (0x9F80, .wrRsvd0FC 0x12345678)],
      decode (.xact p.1 (some 0x12345678)) = .instr p.2 := by
  decide

theorem test_decode_writes_2 :
    ∀ p ∈ [
    (0xA000, .wrFrame0 0x12345678), (0xA080, .wrFrame1 0x12345678), (0xA100, .wrFrame2 0x12345678),
    (0xA180, .wrFrame3 0x12345678), (0xA200, .wrFrame4 0x12345678), (0xA280, .wrFrame5 0x12345678),
    (0xA300, .wrFrame6 0x12345678), (0xA380, .wrFrame7 0x12345678), (0xA400, .wrFrame8 0x12345678),
    (0xA480, .wrFrame9 0x12345678), (0xA500, .wrFrame10 0x12345678), (0xA580, .wrFrame11 0x12345678),
    (0xA600, .wrFrame12 0x12345678), (0xA680, .wrFrame13 0x12345678), (0xA700, .wrFrame14 0x12345678),
    (0xA780, .wrFrame15 0x12345678), (0xA800, .wrFrame16 0x12345678), (0xA880, .wrFrame17 0x12345678),
    (0xA900, .wrFrame18 0x12345678), (0xA980, .wrFrame19 0x12345678), (0xAA00, .wrFrame20 0x12345678),
    (0xAA80, .wrFrame21 0x12345678), (0xAB00, .wrFrame22 0x12345678), (0xAB80, .wrFrame23 0x12345678),
    (0xAC00, .wrFrame24 0x12345678), (0xAC80, .wrFrame25 0x12345678), (0xAD00, .wrFrame26 0x12345678),
    (0xAD80, .wrFrame27 0x12345678), (0xAE00, .wrFrame28 0x12345678), (0xAE80, .wrFrame29 0x12345678),
    (0xAF00, .wrFrame30 0x12345678), (0xAF80, .wrFrame31 0x12345678)],
      decode (.xact p.1 (some 0x12345678)) = .instr p.2 := by
  decide

theorem test_decode_writes_3 :
    ∀ p ∈ [
    (0xB000, .wrFrame32 0x12345678), (0xB080, .wrFrame33 0x12345678), (0xB100, .wrFrame34 0x12345678),
    (0xB180, .wrFrame35 0x12345678), (0xB200, .wrFrame36 0x12345678), (0xB280, .wrFrame37 0x12345678),
    (0xB300, .wrFrame38 0x12345678), (0xB380, .wrFrame39 0x12345678), (0xB400, .wrFrame40 0x12345678),
    (0xB480, .wrFrame41 0x12345678), (0xB500, .wrFrame42 0x12345678), (0xB580, .wrFrame43 0x12345678),
    (0xB600, .wrFrame44 0x12345678), (0xB680, .wrFrame45 0x12345678), (0xB700, .wrFrame46 0x12345678),
    (0xB780, .wrFrame47 0x12345678), (0xB800, .wrFrame48 0x12345678), (0xB880, .wrFrame49 0x12345678),
    (0xB900, .wrFrame50 0x12345678), (0xB980, .wrFrame51 0x12345678), (0xBA00, .wrFrame52 0x12345678),
    (0xBA80, .wrFrame53 0x12345678), (0xBB00, .wrFrame54 0x12345678), (0xBB80, .wrFrame55 0x12345678),
    (0xBC00, .wrFrame56 0x12345678), (0xBC80, .wrFrame57 0x12345678), (0xBD00, .wrFrame58 0x12345678),
    (0xBD80, .wrFrame59 0x12345678), (0xBE00, .wrFrame60 0x12345678), (0xBE80, .wrFrame61 0x12345678),
    (0xBF00, .wrFrame62 0x12345678), (0xBF80, .wrFrame63 0x12345678)],
      decode (.xact p.1 (some 0x12345678)) = .instr p.2 := by
  decide

/-! Reads: vectors V2, V3, V7, of group K, T1 to T21. -/

theorem test_fields_v3 :
    ∀ p ∈ [
    (.rdPosX, 0x00008120), (.rdPosY, 0x0000934A), (.rdPressure, 0x00000378), (.rdTiltX, 0xFFFFFFE0),
    (.rdTiltY, 0x00000000), (.rdTiltXb, 0x00000020), (.rdTiltYb, 0x00000040), (.rdThrottle, 0x00000378),
    (.rdRelWheel, 0x00000000), (.rdRotRaw, 0x00000460), (.rdRotAngle, 0x000002A7), (.rdToolId, 0x00000812),
    (.rdSerial, 0x0934ADE3)],
      rdata (exec p.1 v3) = some p.2 := by
  decide

theorem test_fields_v7 :
    ∀ p ∈ [
    (.rdPosX, 0x00000000), (.rdPosY, 0x00000000), (.rdPressure, 0x00000000), (.rdTiltX, 0xFFFFFFFF),
    (.rdTiltY, 0xFFFFFFC1), (.rdTiltXb, 0x0000003F), (.rdTiltYb, 0x00000001), (.rdRelWheel, 0xFFFFFFFF),
    (.rdRotRaw, 0x0000007F), (.rdRotAngle, 0xFFFFFF81), (.rdToolId, 0x00000000), (.rdSerial, 0x00000003)],
      rdata (exec p.1 v7) = some p.2 := by
  decide

theorem test_fields_v2 :
    ∀ p ∈ [
    (.rdThrottle, 0xFFFFFC01)],
      rdata (exec p.1 v2) = some p.2 := by
  decide

theorem test_pkt_table :
    [
    0xC0, 0xC3, 0xC4, 0x80, 0x81, 0x82, 0xA7, 0xE0, 0xB4, 0xF4, 0xE8, 0xF1, 0xEB, 0xAC, 0xB6, 0xBF].map (fun h => rdata (exec .rdPkt (pending false [h, 0, 0, 0, 0, 0, 0, 0, 0]))) =
    [
    some 0x00C00001, some 0x00C30041, some 0x00C4003F, some 0x0080000A, some 0x0081004A, some 0x0082003F,
    some 0x00A70053, some 0x00E00093, some 0x00B4001B, some 0x00F4009B, some 0x00E800A4, some 0x00F100EC,
    some 0x00EB00F5, some 0x00AC003F, some 0x00B6003F, some 0x00BF007F] := by
  decide

/-- K25, K26, K27: PROX_BIT = 2, SEC_MASK = 0x02, and an ASCII frame pending. -/
theorem test_pkt_parameters :
    rdata (exec .rdPkt { pending false [0xA4, 0, 0, 0, 0, 0, 0, 0, 0] with params := ⟨23, 1, 0⟩ }) = some 0x00A40093 ∧
    rdata (exec .rdPkt { pending false [0xE0, 0, 0, 0, 0, 0, 0, 0, 0] with params := ⟨23, 1, 0⟩ }) = some 0x00E00013 ∧
    rdata (exec .rdPkt { pending false [0xA2, 0, 0, 0, 0, 0, 0, 0, 0] with params := ⟨23, 5, 1⟩ }) = some 0x00A20113 ∧
    rdata (exec .rdPkt { pending false [0x86, 0, 0, 0, 0, 0, 0, 0, 0] with params := ⟨23, 5, 1⟩ }) = some 0x0086013F ∧
    rdata (exec .rdPkt f5) = some 0x00000038 := by
  decide

/-- T1 to T6, P4: PARAM and STATUS. -/
theorem test_param_status :
    rdata (exec .rdParam State.reset) = some 0x00060920 ∧ rdata (exec .rdStatus State.reset) = some 0x00000010 ∧
    rdata (exec .rdStatus f1) = some 0x00000901 ∧ rdata (exec .rdStatus f5) = some 0x00000303 ∧
    rdata (exec .rdStatus (partially [0x7E, 0x23, 0x31, 0x32, 0x31])) = some 0x00050018 ∧
    rdata (exec .rdStatus f2) = some 0x00080014 := by
  decide

/-- T7, T8, T11, T12, T13 and P2: CTRL, EVENTS, IRQ_EN, IRQ_STATUS and irq. -/
theorem test_control_reads :
    rdata (exec .rdCtrl f1) = some 0 ∧ rdata (exec .rdEvents f3) = some 0x00000002 ∧
    rdata (exec .rdIrqEn { f1 with ie := 0b111 }) = some 0x00000007 ∧
    rdata (exec .rdIrqStatus { f1 with ie := 0b001 }) = some 0x00000001 ∧ irq { f1 with ie := 0b001 } = true ∧
    rdata (exec .rdIrqStatus { f1 with ie := 0b110 }) = some 0x00000000 ∧ irq { f1 with ie := 0b110 } = false ∧
    rdata (exec .rdIrqStatus { f1 with ie := 0b111, evRsy := true }) = some 0x00000005 := by
  decide

/-- T18, T19, T20, T21: the table, the frame window, reserved offsets. -/
theorem test_table_and_frame_reads :
    rdata (exec .rdClsRow0 v2) = some 0x0001C0FC ∧ rdata (exec .rdClsRow1 v2) = some 0x000280FE ∧
    rdata (exec .rdClsRow2 v2) = some 0x0003A0B8 ∧ rdata (exec .rdClsRow3 v2) = some 0x0003B4BE ∧
    rdata (exec .rdClsRow4 v2) = some 0x0004A8BE ∧ rdata (exec .rdClsRow5 v2) = some 0x0004B0BE ∧
    rdata (exec .rdClsRow6 v2) = some 0x0005AABE ∧ rdata (exec (.rdFrame 0) f5) = some 0x7E ∧
    rdata (exec (.rdFrame 2) f5) = some 0x00 ∧ rdata (exec (.rdFrame 40) f5) = some 0x00000000 ∧
    rdata (exec .rdRsvd018 f1) = some 0 ∧ rdata (exec .rdRsvd058 f1) = some 0 ∧ rdata (exec .rdRsvd0FC f1) = some 0 := by
  decide

/-! PUSH: F1, F5, F6, F11, and F3, F9, F13, F14, F15. The port record says only that the byte was accepted. -/

theorem test_push_delivers :
    next (exec (.push 0x08) (partially [0xC0, 1, 2, 3, 4, 5, 6, 7])) = next (.next (handshake true f1)) ∧
    next (exec (.push 0x0D) (partially [0x7E, 0x23])) = next (.next (handshake true f5)) ∧
    next (exec (.push 0x0D) State.reset) = next (.next (handshake true (pending true [0]))) ∧
    next (exec (.push 0x0D) (partially [0x41, 0x00, 0x42])) =
      next (.next (handshake true (pending true [0x41, 0, 0x42, 0]))) := by
  decide

theorem test_push_restarts :
    next (exec (.push 0x81) (partially [0xA0, 1, 2, 3, 4])) = next (.next (handshake true f3)) ∧
    next (exec (.push 0x8D) (partially [0x61, 0x62])) =
      next (.next (handshake true { partially [0x8D] with evRsy := true })) ∧
    next (exec (.push 0x41) full9) = next (.next (handshake true f13)) ∧
    next (exec (.push 0x0D) full9) = next (.next (handshake true (cap9 { pending true [0] with evOvf := true }))) ∧
    next (exec (.push 0x41) f1) = next (.next (handshake false f1)) := by
  decide

/-! Writes: T9, T10, T11, T14, T15, T16, T17, T22, and BADACC: T23. -/

theorem test_write_ctrl :
    next (exec (.wrCtrl 1) f1) = next (.next State.reset) ∧ next (exec (.wrCtrl 1) f2) = next (.next f2) ∧
    next (exec (.wrCtrl 3) { f1 with ie := 0b101, evRsy := true }) = next (.next { State.reset with ie := 0b101 }) ∧
    next (exec (.wrCtrl 2) { f13 with ie := 0b010 }) = next (.next (cap9 { State.reset with ie := 0b010 })) := by
  decide

theorem test_write_events_and_irq_en :
    next (exec (.wrEvents 1) f3) = next (.next f3) ∧
    next (exec (.wrEvents 2) f3) = next (.next { f3 with evRsy := false }) ∧
    next (exec (.wrIrqEn 0xFFFFFFFF) State.reset) = next (.next { State.reset with ie := 0b111 }) := by
  decide

theorem test_other_writes_and_badacc :
    next (exec (.wrStatus 1) f1) = next (.next f1) ∧ next (exec (.wrFrame0 0x55) f1) = next (.next f1) ∧
    next (exec (.wrParam 0) f1) = next (.next f1) ∧
    next (exec .badacc f1) = next (.next { f1 with out := { f1.out with err := true } }) := by
  decide

/-! Cycles: S1, S2, S3, S4, S8, T24. -/

theorem test_cycle_s1 :
    next (step (queue [.cycle ⟨false, some 0x08, some ⟨false, 0x004, 2, 0⟩⟩] f2)) =
      some { pending false [0xA0, 1, 2, 3, 4, 5, 6, 7, 8] with out := ⟨0x00080014, false, true, true⟩ } := by
  decide

theorem test_cycle_s2_s3_s4 :
    next (step (queue [byteAndWrite 0x41 0x008 1] (pending true [0]))) = some State.reset ∧
    next (step (queue [byteAndWrite 0x42 0x00C 1] { full9 with evOvf := true })) =
      some { cap9 (partially [0x42]) with evOvf := true, out := ⟨0, false, true, true⟩ } ∧
    next (step (queue [byteAndWrite 0x41 0x008 2] (partially [0x7E, 0x23]))) =
      some { partially [0x41] with out := ⟨0, false, true, true⟩ } := by
  decide

theorem test_cycle_s8_and_t24 :
    next (step (queue [.cycle ⟨true, some 0x41, some ⟨false, 0x004, 2, 0⟩⟩] (partially [0x7E, 0x23]))) =
      some { State.reset with out := ⟨0, true, false, false⟩ } ∧
    next (step (queue [.cycle ⟨false, none, some ⟨true, 0x008, 1, 1⟩⟩] f1)) =
      some { f1 with out := ⟨0, true, false, false⟩ } := by
  decide

/-! The host's two functions: a table word is decoded, and placed where the next step runs it. -/

theorem test_table_words :
    decodeTableWord 16 0x4080 = some .rdStatus ∧ decodeTableWord 16 0x8100 = some (.wrCtrl 0) ∧
    decodeTableWord 48 0x00028100 = some (.wrCtrl 2) ∧ decodeTableWord 8 0xC0 = some (.pktRow0DeviceId 0 0) ∧
    decodeTableWord 16 0x4001 = none := by
  decide

theorem test_fetched_words :
    next (step (State.reset.withFetchWord 16 0x4000)) =
      some { State.reset with out := ⟨0x00060920, false, true, false⟩ } ∧
    (next (step (State.reset.withFetchWord 8 0xE5))).map (·.cls) = some ⟨3, 2, true, true, false, 0xE5⟩ ∧
    next (step (State.reset.withFetchWord 8 0xE5)) = next (mapNext (exec (.pktRow2Stylus 1 2 1)
      (State.reset.withFetchWord 8 0xE5)) popInput) := by
  decide

/-- The classifier's outputs for a header of each row: K2, K6, K11, K13, K15, K17, K19, K21. -/
theorem test_header_rows :
    ∀ p ∈ [(.pktRow0DeviceId 1 1, 0xC3, ⟨1, 0, true, false, false, 0xC3⟩),
        (.pktRow1OutOfProx 1, 0x81, ⟨2, 1, true, false, false, 0x81⟩),
        (.pktRow2Stylus 1 2 1, 0xE5, ⟨3, 2, true, true, false, 0xE5⟩),
        (.pktRow3Stylus 1 0, 0xF4, ⟨3, 3, false, true, false, 0xF4⟩),
        (.pktRow4Cursor1 1 0, 0xE8, ⟨4, 4, false, true, false, 0xE8⟩),
        (.pktRow5Cursor1 1 1, 0xF1, ⟨4, 5, true, true, false, 0xF1⟩),
        (.pktRow6Cursor2 1 1, 0xEB, ⟨5, 6, true, true, false, 0xEB⟩),
        (.pktUnknown 0x19 0, 0xB2, ⟨7, 7, false, false, false, 0xB2⟩)],
      (next (exec p.1 (pending false [p.2.1, 0, 0, 0, 0, 0, 0, 0, 0]))).map (·.cls) = some p.2.2 := by
  decide

/-! States that meet the statements' hypotheses. -/

theorem inv_f1 (l : List Input) : Inv (queue l f1) where
  canonical := (by decide : Memory.wf f1.buf = true)
  inRange := (by decide : Memory.below 32 f1.buf = true)
  idxLe := Nat.zero_le _
  pendIdx _ := rfl
  idleKind h := nomatch h
  binaryFrame _ _ := ⟨rfl, (by decide : (Memory.read f1.buf 0).getLsbD 7 = true), (by
    intro k h1 h8
    change (Memory.read f1.buf k).getLsbD 7 = false
    interval_cases k <;> decide)⟩
  asciiFrame _ h := nomatch h
  binaryPartial h := nomatch h
  asciiPartial h := nomatch h
  frameTail _ i hi := Laws.read_outside (cap := 9) (by decide : Memory.below 9 f1.buf = true) hi

theorem inv_f5 (l : List Input) : Inv (queue l f5) where
  canonical := (by decide : Memory.wf f5.buf = true)
  inRange := (by decide : Memory.below 32 f5.buf = true)
  idxLe := Nat.zero_le _
  pendIdx _ := rfl
  idleKind h := nomatch h
  binaryFrame _ h := nomatch h
  asciiFrame _ _ := ⟨(by decide : 1 ≤ 3), (by decide : 3 ≤ 32), rfl, (by
    intro k hk
    change (Memory.read f5.buf k).getLsbD 7 = false ∧ Memory.read f5.buf k ≠ 0x0D
    have : k < 2 := hk
    interval_cases k <;> decide)⟩
  binaryPartial h := nomatch h
  asciiPartial h := nomatch h
  frameTail _ i hi := Laws.read_outside (cap := 3) (by decide : Memory.below 3 f5.buf = true) hi

theorem witness_DecodeOfEncode : Instr.wf (.pktUnknown 0x19 0) = true := by decide

theorem witness_EncodeOfDecode : decode (.header 0xB2) = .instr (.pktUnknown 0x19 0) := by decide

theorem witness_ReservedDescriptorRefused :
    (queue [.text 0x0100 none] f1).inputs = [.text 0x0100 none] ∧
    ((0x0100 : Descr).extractLsb' 14 2 = 0b00 ∧ (0x0100 : Descr).extractLsb' 8 6 ≠ 0) ∧
    ((0x4001 : Descr).extractLsb' 14 2 = 0b01 ∧ (0x4001 : Descr).extractLsb' 0 7 ≠ 0) ∧
    ((0xBFC0 : Descr).extractLsb' 14 2 = 0b10 ∧ (0xBFC0 : Descr).extractLsb' 0 7 ≠ 0) ∧
    ((0xE000 : Descr).extractLsb' 14 2 = 0b11 ∧ (0xE000 : Descr).extractLsb' 0 14 ≠ 0) := by decide

theorem witness_DescriptorClasses :
    ((0x00FF : Descr).extractLsb' 14 2 = 0b00 ∧ (0x00FF : Descr).extractLsb' 8 6 = 0) ∧
    ((0x7F80 : Descr).extractLsb' 14 2 = 0b01 ∧ (0x7F80 : Descr).extractLsb' 0 7 = 0) ∧
    ((0x8000 : Descr).extractLsb' 14 2 = 0b10 ∧ (0x8000 : Descr).extractLsb' 0 7 = 0) ∧
    ((0xC000 : Descr).extractLsb' 14 2 = 0b11 ∧ (0xC000 : Descr).extractLsb' 0 14 = 0) := by decide

/-- The legal bounds, and a value beyond each: BUF_CAP 8 and 65, PROX_BIT 0 and 7, SEC_MASK bits 7 and 0. -/
theorem witness_IllegalParametersRefused :
    (∀ p ∈ [((9, 1, 0x00) : Nat × Nat × Byte), (64, 6, 0x7E)],
      (9 ≤ p.1 ∧ p.1 ≤ 64) ∧ (1 ≤ p.2.1 ∧ p.2.1 ≤ 6) ∧ p.2.2.getLsbD 7 = false ∧ p.2.2.getLsbD 0 = false) ∧
    (∀ p ∈ [((8, 6, 0x00) : Nat × Nat × Byte), (65, 6, 0x00), (32, 0, 0x00), (32, 7, 0x00), (32, 6, 0x80), (32, 6, 0x01)],
      ¬ ((9 ≤ p.1 ∧ p.1 ≤ 64) ∧ (1 ≤ p.2.1 ∧ p.2.1 ≤ 6) ∧ p.2.2.getLsbD 7 = false ∧ p.2.2.getLsbD 0 = false)) := by
  decide

/-- An accepted PUSH, one that is not accepted, and a WRITE. -/
theorem witness_TextStepRunsInstruction :
    ((queue [.text 0x00FF none] f2).inputs = [.text 0x00FF none] ∧ decode (.xact 0x00FF none) = .instr (.push 0xFF)) ∧
    ((queue [.text 0x00FF none] f1).inputs = [.text 0x00FF none] ∧ f1.pend = true) ∧
    ((queue [.text 0x8200 (some 7)] f1).inputs = [.text 0x8200 (some 7)] ∧
      decode (.xact 0x8200 (some 7)) = .instr (.wrIrqEn 7)) := by decide

theorem witness_ClassifierStepRunsHeader :
    (queue [.classify] f1).inputs = [.classify] ∧ (queue [.classify] f1).pend = true ∧
    (queue [.classify] f1).fkind = false ∧
    decode (.header (byteAt (queue [.classify] f1) 0)) = .instr (.pktRow0DeviceId 0 0) := by decide

theorem witness_CycleRunsBusThenPush :
    (queue [byteAndWrite 0x42 0x00C 1] f2).inputs =
      [.cycle { rst := false, byte := some 0x42, bus := some { we := true, addr := 0x00C, size := 2, wdata := 1 } }] := by
  decide

theorem witness_IdleCycleChangesNothing :
    State.reset.inputs = [] ∧ (queue idle f2).inputs = [.cycle { rst := false, byte := none, bus := none }] := by decide

theorem witness_ResetCycleFromAnyState :
    (queue [.cycle ⟨true, some 0x41, some ⟨false, 0x004, 2, 0⟩⟩] f1).inputs =
      [.cycle ⟨true, some 0x41, some ⟨false, 0x004, 2, 0⟩⟩] := by decide

theorem witness_StepNeverStops :
    Inv (queue [.text 0x4080 none] f1) ∧
    ∀ (t : Descr) (p : Option Word) (rest : List Input), (queue [.text 0x4080 none] f1).inputs = .text t p :: rest →
      ∃ i, decode (.xact t p) = .instr i :=
  ⟨inv_f1 _, by intro t p rest h; cases h; exact ⟨.rdStatus, by decide⟩⟩

theorem witness_StuckPush :
    (queue [.text 0x0041 none] f1).inputs = [.text ((0x41 : Byte).setWidth 16) none] ∧
    (queue [.text 0x0041 none] f1).pend = true := by decide

theorem witness_PushCompletes : full9.idx = full9.params.bufCap ∧ f1.pend = true := by decide

theorem witness_HighByteStartsFrame :
    (State.reset.pend = false ∧ State.reset.idx = 0) ∧ (f2.pend = false ∧ f2.idx ≠ 0) ∧
    (0x80 : Byte).getLsbD 7 = true := by decide

theorem witness_OverflowStartsAgain :
    full9.pend = false ∧ full9.idx = full9.params.bufCap ∧ (0x0D : Byte).getLsbD 7 = false ∧
    (0x41 : Byte).getLsbD 7 = false ∧ (0x41 : Byte) ≠ 0x0D := by decide

theorem witness_NinthByteDeliversBinaryFrame :
    Memory.wf f2.buf = true ∧ f2.pend = false ∧ f2.idx = 8 ∧ (byteAt f2 0).getLsbD 7 = true ∧
    (0x08 : Byte).getLsbD 7 = false := by decide

def almostFull9 : State := cap9 (partially [0x31, 0x32, 0x33, 0x34, 0x35, 0x36, 0x37, 0x38])

/-- An empty line, and the longest line at BUF_CAP = 9 (F6, F12). -/
theorem witness_TerminatorDeliversLine :
    (Memory.wf State.reset.buf = true ∧ State.reset.pend = false ∧ State.reset.idx < State.reset.params.bufCap ∧
      State.reset.idx = 0) ∧
    (Memory.wf almostFull9.buf = true ∧ almostFull9.pend = false ∧ almostFull9.idx < almostFull9.params.bufCap ∧
      (byteAt almostFull9 0).getLsbD 7 = false) := by decide

/-- The last free byte of an ASCII line, and 0x0D inside a binary frame (R94). -/
theorem witness_OtherBytesAccumulate :
    (Memory.wf almostFull9.buf = true ∧ almostFull9.pend = false ∧ almostFull9.idx < almostFull9.params.bufCap ∧
      (0x39 : Byte).getLsbD 7 = false ∧ ¬ (almostFull9.idx = 8 ∧ (byteAt almostFull9 0).getLsbD 7 = true) ∧
      (0x39 : Byte) ≠ 0x0D) ∧
    (Memory.wf (partially [0xA0]).buf = true ∧ (partially [0xA0]).pend = false ∧
      (partially [0xA0]).idx < (partially [0xA0]).params.bufCap ∧ (0x0D : Byte).getLsbD 7 = false ∧
      ¬ ((partially [0xA0]).idx = 8 ∧ (byteAt (partially [0xA0]) 0).getLsbD 7 = true) ∧
      ¬ ((partially [0xA0]).idx = 0 ∨ (byteAt (partially [0xA0]) 0).getLsbD 7 = false)) := by decide

theorem witness_PushSetsAndNeverClears : ∃ t, exec (.push 0x81) f2 = .next t ∧ f2.evRsy = false ∧ t.evRsy = true :=
  ⟨_, rfl, rfl, rfl⟩

theorem witness_WriteCtrl :
    (3 : Word).getLsbD 1 = true ∧ ((1 : Word).getLsbD 1 = false ∧ (1 : Word).getLsbD 0 = true ∧ f1.pend = true) ∧
    ((1 : Word).getLsbD 1 = false ∧ f2.pend = false) := by decide

theorem witness_OtherWritesIgnored :
    .wrParam 0 ∈ ignoredWrites 0 ∧ .wrFrame63 0 ∈ ignoredWrites 0 ∧
    ∀ w ∈ [(0 : BitVec 7), 1, 5, 127], w ≠ 2 ∧ w ≠ 3 ∧ w ≠ 4 := by decide

theorem witness_NarrowOrMisalignedAccess :
    ((queue [.cycle ⟨false, none, some ⟨true, 0x008, 1, 1⟩⟩] f1).inputs =
      [.cycle { rst := false, byte := none, bus := some ⟨true, 0x008, 1, 1⟩ }] ∧ (1 : BitVec 2) ≠ 2) ∧
    ((queue [.cycle ⟨false, none, some ⟨true, 0x00A, 2, 1⟩⟩] f1).inputs =
      [.cycle { rst := false, byte := none, bus := some ⟨true, 0x00A, 2, 1⟩ }] ∧
      (0x00A : BitVec 9).extractLsb' 0 2 ≠ 0) := by decide

theorem witness_ReadsHaveNoSideEffects : .rdParam ∈ fixedReads ∧ .rdRsvd0FC ∈ fixedReads := by decide

theorem witness_ReadPkt :
    ¬ (f5.pend = true ∧ f5.fkind = false) ∧ ¬ (State.reset.pend = true ∧ State.reset.fkind = false) ∧
    (f1.pend = true ∧ f1.fkind = false) := by decide

theorem witness_ReadPosition : v3.pend = true ∧ v3.fkind = false := by decide

/-- The last row of 95_test_vectors.md 1.4, in the frame of V3. -/
theorem witness_PositionRoundTrip :
    v3.pend = true ∧ v3.fkind = false ∧ byteAt v3 1 = ((0x8120 : BitVec 16).extractLsb' 9 7).setWidth 8 ∧
    byteAt v3 2 = ((0x8120 : BitVec 16).extractLsb' 2 7).setWidth 8 ∧
    byteAt v3 3 = ((0x8120 : BitVec 16).extractLsb' 0 2).setWidth 8 <<< 5 |||
      ((0x934A : BitVec 16).extractLsb' 11 5).setWidth 8 ∧
    byteAt v3 4 = ((0x934A : BitVec 16).extractLsb' 4 7).setWidth 8 ∧
    byteAt v3 5 = ((0x934A : BitVec 16).extractLsb' 0 4).setWidth 8 <<< 3 ||| (6 : BitVec 3).setWidth 8 := by decide

/-- Both signs of d8[3]. -/
theorem witness_ReadPressureAndThrottle :
    (v2.pend = true ∧ v2.fkind = false ∧ (byteAt v2 8).getLsbD 3 = true) ∧
    (v3.pend = true ∧ v3.fkind = false ∧ (byteAt v3 8).getLsbD 3 = false) := by decide

theorem witness_ReadTilt : v2.pend = true ∧ v2.fkind = false := by decide

/-- d8[1:0] = 01, 10 and another; a raw rotation of 127, below 900, and of 900 (V6). -/
theorem witness_ReadWheelAndRotation :
    (v7.pend = true ∧ v7.fkind = false ∧ (byteAt v7 8).extractLsb' 0 2 = 0b01#2 ∧
      slice32 v7 6 0 4 <<< 7 ||| slice32 v7 7 0 7 < 900#32) ∧
    (∀ d8 ∈ [(0x02 : Byte), 0x03],
      (pending false [0xAA, 0, 0, 0, 0, 0, 7, 4, d8]).pend = true ∧
      (pending false [0xAA, 0, 0, 0, 0, 0, 7, 4, d8]).fkind = false ∧
      byteAt (pending false [0xAA, 0, 0, 0, 0, 0, 7, 4, d8]) 8 = d8 ∧
      ¬ slice32 (pending false [0xAA, 0, 0, 0, 0, 0, 7, 4, d8]) 6 0 4 <<< 7 |||
        slice32 (pending false [0xAA, 0, 0, 0, 0, 0, 7, 4, d8]) 7 0 7 < 900#32) := by decide

theorem witness_ReadToolIdAndSerial : v3.pend = true ∧ v3.fkind = false := by decide

theorem witness_FieldsReadZeroWithoutBinaryFrame :
    ¬ (f5.pend = true ∧ f5.fkind = false) ∧ ¬ (f2.pend = true ∧ f2.fkind = false) := by decide

/-- Indices 31 and 32 at BUF_CAP = 32; the NUL and the first index past a pending line of 3 bytes, and past a binary
frame. -/
theorem witness_ReadFrameWindow :
    (31#6).toNat < State.reset.params.bufCap ∧ State.reset.params.bufCap ≤ (32#6).toNat ∧
    (Inv (queue [] f5) ∧ (queue [] f5).pend = true ∧ (queue [] f5).flen ≤ (3#6).toNat) ∧
    (Inv (queue [] f5) ∧ (queue [] f5).pend = true ∧ (queue [] f5).fkind = true ∧ (2#6).toNat + 1 = (queue [] f5).flen) ∧
    (Inv (queue [] f1) ∧ (queue [] f1).pend = true ∧ (queue [] f1).flen ≤ (9#6).toNat) :=
  ⟨by decide, by decide, ⟨inv_f5 [], by decide⟩, ⟨inv_f5 [], by decide⟩, inv_f1 [], by decide⟩

theorem witness_ReadReserved : .rdRsvd018 ∈ reservedReads ∧ .rdRsvd0FC ∈ reservedReads := by decide

theorem witness_HeaderRowOutputs : f1.pend = true ∧ f1.fkind = false := by decide

theorem witness_UnknownHeaderOutputs :
    f1.pend = true ∧ f1.fkind = false ∧ Instr.wf (.pktUnknown 0x3F 1) = true := by decide

theorem witness_ClassifierInactiveWithoutBinaryFrame :
    (∀ s ∈ [queue [.classify] f5, queue [.classify] f2],
      ¬ (s.pend = true ∧ s.fkind = false) ∧ s.inputs = [.classify]) ∧
    decode (.header 0xC0) = .instr (.pktRow0DeviceId 0 0) := by decide

theorem witness_ClassifierAgreesWithPkt :
    (queue [.classify] f1).inputs = [.classify] ∧ (queue [.classify] f5).inputs = [.classify] := by decide

theorem witness_StepKeepsInvariant : Inv (queue ack f1) ∧ ∃ t, step (queue ack f1) = .next t ∧ t.pend = false :=
  ⟨inv_f1 _, _, rfl, rfl⟩

theorem witness_FrameHeldWhilePending :
    (queue clrev f1).pend = true ∧ ∃ t, step (queue clrev f1) = .next t ∧ t.pend = true := ⟨rfl, _, rfl, rfl⟩

theorem witness_PendFallsOnlyByReleaseOrReset :
    ((queue ack f1).pend = true ∧ ∃ t, step (queue ack f1) = .next t ∧ t.pend = false) ∧
    ((queue [byteAndWrite 0x41 0x008 2] f1).pend = true ∧
      ∃ t, step (queue [byteAndWrite 0x41 0x008 2] f1) = .next t ∧ t.pend = false) :=
  ⟨⟨rfl, _, rfl, rfl⟩, rfl, _, rfl, rfl⟩

theorem witness_EventsFallOnlyByClearOrReset :
    (∃ t, step (queue clrev f13) = .next t ∧ (queue clrev f13).evOvf = true ∧ t.evOvf = false) ∧
    (∃ t, step (queue srst f13) = .next t ∧ (queue srst f13).evOvf = true ∧ t.evOvf = false) ∧
    (∃ t, step (queue clrev f3) = .next t ∧ (queue clrev f3).evRsy = true ∧ t.evRsy = false) ∧
    (∃ t, step (queue srst f3) = .next t ∧ (queue srst f3).evRsy = true ∧ t.evRsy = false) :=
  ⟨⟨_, rfl, rfl, rfl⟩, ⟨_, rfl, rfl, rfl⟩, ⟨_, rfl, rfl, rfl⟩, _, rfl, rfl, rfl⟩

/-- A write to IRQ_EN, and a reset. -/
theorem witness_EnablesChangeOnlyByIrqEn :
    (∃ t, step (queue [byteAndWrite 0x41 0x010 5] f1) = .next t ∧
      t.ie ≠ (queue [byteAndWrite 0x41 0x010 5] f1).ie) ∧
    (∃ t, step (queue [.cycle ⟨true, none, none⟩] { f1 with ie := 0b101 }) = .next t ∧
      t.ie ≠ (queue [.cycle ⟨true, none, none⟩] { f1 with ie := 0b101 }).ie ∧ t.ie = 0) :=
  ⟨⟨_, rfl, by decide⟩, _, rfl, by decide, rfl⟩

theorem witness_ParametersNeverChange :
    ∃ t, step (queue [.cycle ⟨true, none, none⟩] full9) = .next t := ⟨_, rfl⟩

theorem witness_EventSetWinsOverClear :
    ((queue [byteAndWrite 0x42 0x00C 1] full9).inputs =
      [.cycle { rst := false, byte := some 0x42, bus := some { we := true, addr := 0x00C, size := 2, wdata := 1 } }] ∧
      full9.pend = false ∧ (0x42 : Byte).getLsbD 7 = false ∧ full9.idx = full9.params.bufCap) ∧
    (f2.pend = false ∧ (0x80 : Byte).getLsbD 7 = true ∧ f2.idx ≠ 0) := by decide

theorem witness_ByteInSoftResetCycle :
    (queue [byteAndWrite 0x41 0x008 2] f2).inputs =
      [.cycle { rst := false, byte := some 0x41, bus := some { we := true, addr := 0x008, size := 2, wdata := 2 } }] ∧
    (2 : Word).getLsbD 1 = true ∧ (0x41 : Byte) ≠ 0x0D ∧ f2.pend = false ∧ f1.pend = true := by decide

theorem witness_ByteInAckCycleWaits :
    f1.pend = true ∧
    (queue [byteAndWrite 0x41 0x008 1, .cycle ⟨false, some 0x41, none⟩] f1).inputs =
      [.cycle { rst := false, byte := some 0x41, bus := some { we := true, addr := 0x008, size := 2, wdata := 0x00000001 } },
       .cycle { rst := false, byte := some 0x41, bus := none }] := by decide

end Sys2Proof.Tests
end

section
/-! SUPPORT. The scope of an instance: its three parameters and the values that spell one (R9, R10, R11). -/

namespace Sys2Proof.Proofs

open Sys2Proof Sys2Proof.Laws

/-- SEC_MASK is the six stored bits placed at 6:1, so its outer bits are 0 (R11). -/
theorem secMask_outer_bits (p : Params) : p.secMask.getLsbD 7 = false ∧ p.secMask.getLsbD 0 = false := by
  simp [Params.secMask]

/-- No bit is lost where SEC_MASK is stored as its bits 6:1, if the outer bits are 0 (R11). -/
theorem shiftLeft_middle_of_outer_bits {m : Byte} (h7 : m.getLsbD 7 = false) (h0 : m.getLsbD 0 = false) :
    (m.extractLsb' 1 6).setWidth 8 <<< 1 = m := by
  refine BitVec.eq_of_getLsbD_eq fun i hi => ?_
  obtain rfl | ⟨hpos, hmid⟩ | rfl : i = 0 ∨ (0 < i ∧ i - 1 < 6) ∨ i = 7 := by omega
  · simpa using h0
  · have hback : 1 + (i - 1) = i := by omega
    simp [hi, hpos.ne', hmid, hback]
  · simpa using h7

/-- The instance built from three legal values reads back as these values. -/
theorem ofValues_of_legal {c x : Nat} {m : Byte}
    (h : (9 ≤ c ∧ c ≤ 64) ∧ (1 ≤ x ∧ x ≤ 6) ∧ m.getLsbD 7 = false ∧ m.getLsbD 0 = false) :
    ∃ p, Params.ofValues c x m = some p ∧ p.bufCap = c ∧ p.proxBit = x ∧ p.secMask = m := by
  have ⟨⟨hcap, _⟩, ⟨hprox, _⟩, h7, h0⟩ := h
  exact ⟨_, dif_pos h, Nat.add_sub_cancel' hcap, Nat.add_sub_cancel' hprox, shiftLeft_middle_of_outer_bits h7 h0⟩

/-- Settles O6: the stored distances are exactly those of legal values, so a legal triple is read back, an illegal one
is refused, and no instance is illegal. -/
theorem illegalParametersRefused : Obligations.IllegalParametersRefused :=
  ⟨fun _ _ _ => ofValues_of_legal, fun _ _ _ h => dif_neg h,
    fun p => ⟨bufCap_bounds p, proxBit_bounds p, secMask_outer_bits p⟩⟩

end Sys2Proof.Proofs
end

section
/-! SUPPORT. Which instruction each descriptor is, and what one step can do to the stored state of the block, said once as
a chain of elementary changes (R141 to R143, R167, R185). -/

namespace Sys2Proof.Proofs

open Sys2Proof Sys2Proof.Machine Sys2Proof.Laws

/-- A descriptor is its class, its word offset and its low bits (R70). -/
theorem descr_eq_parts (t : Descr) :
    t = (t.extractLsb' 14 2).setWidth 16 <<< 14 ||| (t.extractLsb' 7 7).setWidth 16 <<< 7
      ||| (t.extractLsb' 0 7).setWidth 16 := by
  ext k hk; interval_cases k <;> simp [BitVec.getLsbD_of_ge]

/-- A bus address is its word offset and its alignment bits (R52). -/
theorem busAddr_eq_parts (a : BitVec 9) :
    a = (a.extractLsb' 2 7).setWidth 9 <<< 2 ||| (a.extractLsb' 0 2).setWidth 9 := by
  ext k hk; interval_cases k <;> simp [BitVec.getLsbD_of_ge]

theorem decode_readDescr (w : BitVec 7) :
    decode (.xact (0x4000#16 ||| w.setWidth 16 <<< 7) none) = .instr (decodeRead w.toNat) := by
  obtain ⟨hclass, hlow, hoffset⟩ := descr_fields 0b01 w (0x4000#16 ||| w.setWidth 16 <<< 7) rfl
  simp only [decode, decodeXact, hclass, hlow, hoffset]; rfl

theorem decode_writeDescr (w : BitVec 7) (v : Word) :
    decode (.xact (0x8000#16 ||| w.setWidth 16 <<< 7) (some v)) = .instr (decodeWrite v w.toNat) := by
  obtain ⟨hclass, hlow, hoffset⟩ := descr_fields 0b10 w (0x8000#16 ||| w.setWidth 16 <<< 7) rfl
  simp only [decode, decodeXact, hclass, hlow, hoffset]; rfl

/-- What a line of text can be: a PUSH, a READ, the WRITE with this descriptor and payload, or BADACC (R70, R74). -/
theorem decode_xact_cases {t : Descr} {p : Option Word} {i : Instr} (h : decode (.xact t p) = .instr i) :
    (∃ b, i = .push b) ∨ (∃ w : BitVec 7, i = decodeRead w.toNat) ∨
    (∃ (w : BitVec 7) (v : Word), t = 0x8000#16 ||| w.setWidth 16 <<< 7 ∧ p = some v ∧ i = decodeWrite v w.toNat) ∨
    i = .badacc := by
  simp only [decode, decodeXact] at h
  split at h
  · split at h
    · cases p <;> cases h
      exact .inl ⟨_, rfl⟩
    · cases h
  split at h
  · split at h
    · cases p <;> cases h
      exact .inr (.inl ⟨_, rfl⟩)
    · cases h
  split at h
  · rename_i hclass
    split at h
    · rename_i hlow
      cases p <;> cases h
      refine .inr (.inr (.inl ⟨t.extractLsb' 7 7, _, ?_, rfl, rfl⟩))
      conv_lhs => rw [descr_eq_parts t, hclass, hlow]
      simp
    · cases h
  · split at h
    · cases p <;> cases h
      exact .inr (.inr (.inr rfl))
    · cases h

/-- The next input is a write of payload `v` to word offset `w`: an aligned 32-bit access at the ports, or a line of
text (R70, R72, R75). -/
def NextWrites (s : State) (w : BitVec 7) (v : Word) : Prop :=
  ∃ rest, (∃ p b, s.inputs = .cycle p :: rest ∧ p.bus = some b ∧ b.we = true ∧ b.size = 2 ∧
      b.addr = w.setWidth 9 <<< 2 ∧ b.wdata = v) ∨
    s.inputs = .text (0x8000#16 ||| w.setWidth 16 <<< 7) (some v) :: rest

/-- The next input is a cycle with `rst = 1` (R185). -/
def NextResets (s : State) : Prop := ∃ rest p, s.inputs = .cycle p :: rest ∧ p.rst = true

/-- An elementary change from `a` to `b` in the step that state `s` takes: of the model's own records only, a reset, one of
the three effective writes (R54), or a PUSH, which `in_ready` at the start of the cycle enables (R167). -/
inductive Change (s : State) : State → State → Prop
  | records {a b : State} (h : b = { a with out := b.out, cls := b.cls, inputs := b.inputs }) : Change s a b
  | reset (busPresent : Bool) {a : State} (h : NextResets s) : Change s a (resetCycle busPresent a)
  | ctrl {v : Word} {a : State} (h : NextWrites s 2 v) : Change s a (writeCtrl v a)
  | events {v : Word} {a : State} (h : NextWrites s 3 v) : Change s a (writeEvents v a)
  | irqEn {v : Word} {a : State} (h : NextWrites s 4 v) : Change s a (writeIrqEn v a)
  | push {x : Byte} {a b : State} (hs : s.pend = false) (ha : a.pend = false) (h : framerPush x a = some b) : Change s a b

/-- The elementary changes in the order in which the step makes them. -/
abbrev Changes (s : State) : State → State → Prop := Relation.ReflTransGen (Change s)

theorem Change.changes {s a b : State} (h : Change s a b) : Changes s a b := .single h

/-- A response after an effect is a change of the records only. -/
theorem Change.then_respond {s a b : State} (v : Word) (e : Bool) (h : Change s a b) : Changes s a (respond v e b) :=
  h.changes.tail (.records rfl)

theorem changes_of_exec_read {w : Nat} {s a b : State} (h : exec (decodeRead w) a = .next b) : Changes s a b := by
  obtain ⟨t, hexec, ht⟩ := decodeRead_cases w a
  obtain rfl : t = b := by simpa [hexec] using h
  exact (Change.records (by rw [ht])).changes

theorem changes_of_exec_write {w : BitVec 7} {v : Word} {s a b : State} (hw : NextWrites s w v)
    (h : exec (decodeWrite v w.toNat) a = .next b) : Changes s a b := by
  obtain ⟨t, hexec, ht⟩ := decodeWrite_cases v w.toNat a
  obtain rfl : t = b := by simpa [hexec] using h
  have offset : ∀ {n : BitVec 7}, w.toNat = n.toNat → NextWrites s n v := fun hn => BitVec.eq_of_toNat_eq hn ▸ hw
  rcases ht with ⟨h2, rfl⟩ | ⟨h3, rfl⟩ | ⟨h4, rfl⟩ | ⟨-, -, -, rfl⟩
  · exact (Change.ctrl (offset (n := 2) h2)).then_respond 0 false
  · exact (Change.events (offset (n := 3) h3)).then_respond 0 false
  · exact (Change.irqEn (offset (n := 4) h4)).then_respond 0 false
  · exact (Change.records rfl).changes

theorem changes_of_exec_push {x : Byte} {s a b : State} (hready : a.pend = false → s.pend = false)
    (h : exec (.push x) a = .next b) : Changes s a b := by
  rcases exec_push_eq_next h with ⟨-, rfl⟩ | ⟨ha, u, hpush, rfl⟩
  · exact (Change.records rfl).changes
  · exact (Change.push (hready ha) ha hpush).changes.tail (.records rfl)

theorem changes_of_exec_badacc {s a b : State} (h : exec .badacc a = .next b) : Changes s a b := by
  cases h
  exact (Change.records rfl).changes

theorem changes_of_textStep {t : Descr} {p : Option Word} {rest : List Input} {s u : State}
    (hin : s.inputs = .text t p :: rest) (h : textStep t p s = .next u) : Changes s s u := by
  unfold textStep at h
  split at h
  case h_2 => cases h
  case h_1 i hdec =>
    obtain ⟨b, hexec, rfl⟩ := mapNext_eq_next h
    have begin : Changes s s (beginCycle s) := (Change.records rfl).changes
    have done : Change s b (afterText i b) := by
      unfold afterText
      split <;> exact .records rfl
    refine (begin.trans ?_).tail done
    rcases decode_xact_cases hdec with ⟨x, rfl⟩ | ⟨w, rfl⟩ | ⟨w, v, rfl, rfl, rfl⟩ | rfl
    · exact changes_of_exec_push id hexec
    · exact changes_of_exec_read hexec
    · exact changes_of_exec_write ⟨rest, .inr hin⟩ hexec
    · exact changes_of_exec_badacc hexec

theorem runCode_of_decode {c : Code} {i : Instr} (h : decode c = .instr i) (s : State) : runCode c s = exec i s := by
  unfold runCode
  rw [h]

theorem changes_of_busPhase {p : PortsIn} {rest : List Input} {s a b : State} (hin : s.inputs = .cycle p :: rest)
    (h : busPhase p.bus a = .next b) : Changes s a b := by
  cases hbus : p.bus with
  | none =>
    rw [hbus] at h
    cases h
    exact .refl
  | some r =>
    rw [hbus] at h
    change runCode (busCode r) a = .next b at h
    rw [runCode_of_decode (decode_busCode r)] at h
    split at h
    · rename_i hwide
      split at h
      · rename_i hwe
        have haddr : r.addr = (r.addr.extractLsb' 2 7).setWidth 9 <<< 2 := by
          conv_lhs => rw [busAddr_eq_parts r.addr, hwide.2]
          simp
        exact changes_of_exec_write ⟨rest, .inl ⟨p, r, hin, hbus, hwe, hwide.1, haddr, rfl⟩⟩ h
      · exact changes_of_exec_read h
    · exact changes_of_exec_badacc h

theorem changes_of_pushPhase {byte : Option Byte} {s a b : State} (h : pushPhase byte (inReady s) a = .next b) :
    Changes s a b := by
  unfold pushPhase at h
  split at h
  · cases h
    exact .refl
  · split at h
    · rename_i x hready
      rw [runCode_of_decode (decode_byteCode x)] at h
      exact changes_of_exec_push (fun _ => by simpa [inReady] using hready) h
    · cases h
      exact .refl

theorem changes_of_cycleStep {p : PortsIn} {rest : List Input} {s u : State} (hin : s.inputs = .cycle p :: rest)
    (h : cycleStep p s = .next u) : Changes s s u := by
  unfold cycleStep at h
  split at h
  · rename_i hrst
    cases h
    exact (Change.reset _ ⟨rest, p, hin, hrst⟩).changes.tail (.records rfl)
  · obtain ⟨b, hphases, rfl⟩ := mapNext_eq_next h
    obtain ⟨a, hbus, hpush⟩ := andThen_eq_next hphases
    have begin : Changes s s (beginCycle s) := (Change.records rfl).changes
    exact ((begin.trans (changes_of_busPhase hin hbus)).trans (changes_of_pushPhase hpush)).tail (.records rfl)

end Sys2Proof.Proofs
end

section
/-! SUPPORT. The classifier: decoding the header and running it latches what the search of the table gives (R101, R111).
Then what a step can do, and the principle that an elementary change must keep what a step keeps. -/

namespace Sys2Proof.Proofs

open Sys2Proof Sys2Proof.Machine Sys2Proof.Laws

/-- Row, kind and header byte of a header row's instruction (R102). -/
def headerRow : Instr → Option (BitVec 3 × BitVec 3 × Byte)
  | .pktRow0DeviceId x1 ch => some (0, kindDeviceId, headerRow0 x1 ch)
  | .pktRow1OutOfProx ch => some (1, kindOutOfProx, headerRow1 ch)
  | .pktRow2Stylus x6 x21 ch => some (2, kindStylus, headerRow2 x6 x21 ch)
  | .pktRow3Stylus x6 ch => some (3, kindStylus, headerRow3 x6 ch)
  | .pktRow4Cursor1 x6 ch => some (4, kindCursor1, headerRow4 x6 ch)
  | .pktRow5Cursor1 x6 ch => some (5, kindCursor1, headerRow5 x6 ch)
  | .pktRow6Cursor2 x6 ch => some (6, kindCursor2, headerRow6 x6 ch)
  | .pktUnknown mid ch => some (7, kindUnknown, unknownHeader mid ch)
  | _ => none

theorem exec_of_headerRow {i : Instr} {row kind : BitVec 3} {h : Byte} (hi : headerRow i = some (row, kind, h))
    (s : State) : exec i s = .next (latchCls (clsOutputs s row kind h) s) := by
  cases i <;> cases hi <;> rfl

/-- What the decoder answers for header `h` agrees with the search of the table: the row and kind that it finds, and a
rejection only without bit 7 (R63, R111). -/
def agreesWithSearch (h : Byte) : Decoded → Bool
  | .instr i => headerRow i == some ((classify h).1, (classify h).2, h)
  | .reject _ => !h.getLsbD 7

/-- The two paths agree on all 256 bytes. -/
theorem decode_header_agrees : ∀ h : Byte, agreesWithSearch h (decode (.header h)) = true := by decide

theorem headerRow_of_decode {h : Byte} {i : Instr} (hdec : decode (.header h) = .instr i) :
    headerRow i = some ((classify h).1, (classify h).2, h) := by
  simpa [hdec, agreesWithSearch] using decode_header_agrees h

/-- An observation latches the classifier's outputs, whatever is pending (R79, R101). -/
theorem classifierStep_eq (s : State) : classifierStep s = .next (popInput (latchCls (classifier s) s)) := by
  unfold classifierStep
  split
  · cases hdec : decode (.header (header s)) with
    | instr i =>
      have hrow := headerRow_of_decode hdec
      simp only [exec_of_headerRow hrow, mapNext_next, classifier]
    | reject e => rfl
  · rename_i hv
    simp only [classifier, clsOutputs, hv]; rfl

/-- What a step that answers has done. -/
theorem changes_of_step {s t : State} (h : step s = .next t) : Changes s s t := by
  unfold step at h
  split at h
  · cases h
    exact (Change.records rfl).changes
  · exact changes_of_textStep ‹_› h
  · exact changes_of_cycleStep ‹_› h
  · rw [classifierStep_eq] at h
    cases h
    exact (Change.records rfl).changes

/-- What every elementary change of a step keeps, the step keeps. -/
theorem step_keeps {P : State → Prop} {s t : State} (hstep : step s = .next t) (hs : P s)
    (hkeep : ∀ a b, Change s a b → P a → P b) : P t := by
  have hchanges := changes_of_step hstep
  clear hstep
  induction hchanges with
  | refl => exact hs
  | tail _ hchange ih => exact hkeep _ _ hchange ih

end Sys2Proof.Proofs
end

section
/-! SUPPORT. PUSH: what it leaves alone, and how the frame it collects grows by one byte (R85 to R92). -/

namespace Sys2Proof.Proofs

open Sys2Proof Sys2Proof.Machine Sys2Proof.Laws

/-- Steps 1 and 2 touch the buffer, the index and the event flags only. -/
theorem pushRestart_eq (b : Byte) (s : State) :
    ∃ m i o y, pushRestart b s = { s with buf := m, idx := i, evOvf := o, evRsy := y } := by
  rcases pushRestart_cases b s with ⟨-, h⟩ | ⟨-, -, h⟩ | ⟨-, -, h⟩ <;> exact ⟨_, _, _, _, h⟩

theorem pushRestart_pend (b : Byte) (s : State) : (pushRestart b s).pend = s.pend := by
  obtain ⟨m, i, o, y, h⟩ := pushRestart_eq b s
  rw [h]

/-- Steps 1 and 2 raise event flags and clear none (R86, R87). -/
theorem pushRestart_keeps_events (b : Byte) (s : State) :
    (s.evOvf = true → (pushRestart b s).evOvf = true) ∧ (s.evRsy = true → (pushRestart b s).evRsy = true) := by
  rcases pushRestart_cases b s with ⟨-, h⟩ | ⟨-, -, h⟩ | ⟨-, -, h⟩ <;> rw [h] <;> simp +contextual

/-- A PUSH leaves the parameters, IE and the model's own records alone (R85). -/
theorem framerPush_eq {b : Byte} {s t : State} (h : framerPush b s = some t) :
    t = { s with
      buf := t.buf, idx := t.idx, pend := t.pend, fkind := t.fkind, flen := t.flen, evOvf := t.evOvf, evRsy := t.evRsy } := by
  obtain ⟨m, i, o, y, hrestart⟩ := pushRestart_eq b s
  obtain ⟨r, hr, -, a, rfl, hend⟩ := framerPush_cases h
  obtain rfl := hr.trans hrestart
  rcases hend with ⟨-, -, rfl⟩ | ⟨-, -, rfl⟩ | ⟨-, -, rfl⟩ <;> rfl

/-- A PUSH raises event flags and clears none (R99). -/
theorem framerPush_keeps_events {b : Byte} {s t : State} (h : framerPush b s = some t) :
    (s.evOvf = true → t.evOvf = true) ∧ (s.evRsy = true → t.evRsy = true) := by
  obtain ⟨r, rfl, -, a, rfl, ⟨-, -, rfl⟩ | ⟨-, -, rfl⟩ | ⟨-, -, rfl⟩⟩ := framerPush_cases h <;>
    exact pushRestart_keeps_events b s

theorem framerPush_params {b : Byte} {s t : State} (h : framerPush b s = some t) : t.params = s.params := by
  rw [framerPush_eq h]

theorem framerPush_ie {b : Byte} {s t : State} (h : framerPush b s = some t) : t.ie = s.ie := by
  rw [framerPush_eq h]

theorem framerPush_out {b : Byte} {s t : State} (h : framerPush b s = some t) : t.out = s.out := by
  rw [framerPush_eq h]

end Sys2Proof.Proofs
end

section
/-! SUPPORT. The invariants of R31 under each elementary change. -/

namespace Sys2Proof.Proofs

open Sys2Proof Sys2Proof.Machine Sys2Proof.Laws

/-- The invariants speak of the stored frame only, so the event flags, IE and the model's records are free. -/
theorem inv_congr {s t : State} (hs : Inv s) (hparams : t.params = s.params) (hbuf : t.buf = s.buf) (hidx : t.idx = s.idx)
    (hpend : t.pend = s.pend) (hfkind : t.fkind = s.fkind) (hflen : t.flen = s.flen) : Inv t := by
  obtain ⟨params, buf, idx, pend, fkind, flen, evOvf, evRsy, ie, out, cls, inputs⟩ := t
  dsimp only at hparams hbuf hidx hpend hfkind hflen
  subst hparams hbuf hidx hpend hfkind hflen
  exact ⟨hs.canonical, hs.inRange, hs.idxLe, hs.pendIdx, hs.idleKind, hs.binaryFrame, hs.asciiFrame, hs.binaryPartial,
    hs.asciiPartial, hs.frameTail⟩

/-- An empty block has the invariants, whatever its other fields hold. -/
theorem inv_of_empty {s : State} (hbuf : s.buf = []) (hidx : s.idx = 0) (hpend : s.pend = false)
    (hfkind : s.fkind = false) (hflen : s.flen = 0) : Inv s where
  canonical := by rw [hbuf, wf_nil]
  inRange := by rw [hbuf]; rfl
  idxLe := by omega
  pendIdx _ := hidx
  idleKind _ := ⟨hfkind, hflen, by simp [hbuf]⟩
  binaryFrame h := by simp [hpend] at h
  asciiFrame h := by simp [hpend] at h
  binaryPartial _ h := by omega
  asciiPartial _ h := by omega
  frameTail h := by simp [hpend] at h

/-- Steps 1 and 2 keep the invariants of an idle block: they empty it or leave it. -/
theorem inv_pushRestart (b : Byte) {s : State} (hs : Inv s) (hpend : s.pend = false) : Inv (pushRestart b s) := by
  obtain ⟨hfkind, hflen, -⟩ := hs.idleKind hpend
  rcases pushRestart_cases b s with ⟨-, h⟩ | ⟨-, -, h⟩ | ⟨-, -, h⟩ <;> rw [h]
  · exact inv_of_empty rfl rfl hpend hfkind hflen
  · exact inv_of_empty rfl rfl hpend hfkind hflen
  · exact hs

/-- Step 3: the partial frame of `r` with byte `b` after it. -/
abbrev appended (b : Byte) (r : State) : State := { r with buf := Memory.write r.buf r.idx b, idx := r.idx + 1 }

/-- What the later steps of PUSH need of the partial frame in `r` and the byte `b` after it: a high byte only comes
first (R86), and the index is in range (R87). -/
structure Appends (b : Byte) (r : State) : Prop where
  inv : Inv r
  idle : r.pend = false
  highFirst : b.getLsbD 7 = true → r.idx = 0
  idxLt : r.idx < r.params.bufCap

theorem appends_pushRestart (b : Byte) {s : State} (hs : Inv s) (hpend : s.pend = false) :
    Appends b (pushRestart b s) where
  inv := inv_pushRestart b hs hpend
  idle := (pushRestart_pend b s).trans hpend
  highFirst hb := by
    rcases pushRestart_cases b s with ⟨-, h⟩ | ⟨hlow, -⟩ | ⟨hlow, -⟩
    · rw [h]; rfl
    · cases hb.symm.trans hlow
    · cases hb.symm.trans hlow
  idxLt := pushRestart_idx_lt hs.idxLe

section
variable {b : Byte} {r : State} (ha : Appends b r)
include ha

theorem Appends.read (i : Nat) :
    Memory.read (appended b r).buf i = if i = r.idx then b else Memory.read r.buf i :=
  read_write ha.inv.canonical r.idx b i

/-- The bytes that were there stay. -/
theorem Appends.read_of_lt {i : Nat} (hi : i < r.idx) : Memory.read (appended b r).buf i = Memory.read r.buf i := by
  rw [ha.read, if_neg (by omega)]

theorem Appends.read_last : Memory.read (appended b r).buf r.idx = b := by
  rw [ha.read, if_pos rfl]

theorem Appends.read_tail {i : Nat} (hi : r.idx + 1 ≤ i) : Memory.read (appended b r).buf i = 0 := by
  obtain ⟨-, -, htail⟩ := ha.inv.idleKind ha.idle
  rw [ha.read, if_neg (by omega), htail i (by omega)]

theorem Appends.canonical : Memory.wf (appended b r).buf = true := wf_write ha.inv.canonical _ _

theorem Appends.inRange : Memory.below r.params.bufCap (appended b r).buf = true := below_write ha.inv.inRange _ ha.idxLt

/-- A byte after the first is low. -/
theorem Appends.low_of_pos (hpos : 0 < r.idx) : b.getLsbD 7 = false := by
  by_contra hhigh
  have := ha.highFirst (by simpa using hhigh)
  omega

/-- Behind a high byte 0 every byte is low, and it was the ninth at most. -/
theorem Appends.binary_bytes (hhead : (Memory.read (appended b r).buf 0).getLsbD 7 = true) :
    r.idx ≤ 8 ∧ ∀ k, 1 ≤ k → k < r.idx + 1 → (Memory.read (appended b r).buf k).getLsbD 7 = false := by
  rcases Nat.eq_zero_or_pos r.idx with hzero | hpos
  · exact ⟨by omega, fun k h1 hk => by omega⟩
  · rw [ha.read_of_lt hpos] at hhead
    obtain ⟨hle, hlow⟩ := ha.inv.binaryPartial ha.idle hpos hhead
    refine ⟨hle, fun k h1 hk => ?_⟩
    rcases Nat.lt_succ_iff_lt_or_eq.mp hk with hlt | rfl
    · rw [ha.read_of_lt hlt]
      exact hlow k h1 hlt
    · rw [ha.read_last]
      exact ha.low_of_pos hpos

/-- Behind a low byte 0 every earlier byte is low and no terminator, and so the new byte is low. -/
theorem Appends.ascii_bytes (hhead : (Memory.read (appended b r).buf 0).getLsbD 7 = false) :
    b.getLsbD 7 = false ∧
      ∀ k, k < r.idx → (Memory.read r.buf k).getLsbD 7 = false ∧ Memory.read r.buf k ≠ 0x0D := by
  rcases Nat.eq_zero_or_pos r.idx with hzero | hpos
  · rw [← hzero, ha.read_last] at hhead
    exact ⟨hhead, fun k hk => by omega⟩
  · rw [ha.read_of_lt hpos] at hhead
    exact ⟨ha.low_of_pos hpos, ha.inv.asciiPartial ha.idle hpos hhead⟩

/-- Step 4: the ninth byte behind a header delivers a binary frame (R89). -/
theorem inv_deliver_binary (hnine : r.idx + 1 = 9) (hhead : (Memory.read (appended b r).buf 0).getLsbD 7 = true) :
    Inv (deliver false 9 (appended b r)) where
  canonical := ha.canonical
  inRange := ha.inRange
  idxLe := Nat.zero_le _
  pendIdx _ := rfl
  idleKind h := nomatch h
  binaryFrame _ _ := ⟨rfl, hhead, fun k h1 h8 => (ha.binary_bytes hhead).2 k h1 (by omega)⟩
  asciiFrame _ h := nomatch h
  binaryPartial h := nomatch h
  asciiPartial h := nomatch h
  frameTail _ i hi := ha.read_tail (hnine ▸ hi)

/-- Step 5: a terminator, overwritten with NUL, delivers the line (R90). -/
theorem inv_deliver_ascii (hhead : (Memory.read (appended b r).buf 0).getLsbD 7 = false) :
    Inv (deliver true (r.idx + 1) { appended b r with buf := Memory.write (appended b r).buf r.idx 0 }) := by
  have hread : ∀ i, Memory.read (Memory.write (appended b r).buf r.idx 0) i =
      if i = r.idx then 0 else Memory.read (appended b r).buf i := read_write ha.canonical r.idx 0
  exact {
    canonical := wf_write ha.canonical _ _
    inRange := below_write ha.inRange _ ha.idxLt
    idxLe := Nat.zero_le _
    pendIdx := fun _ => rfl
    idleKind := fun h => nomatch h
    binaryFrame := fun _ h => nomatch h
    asciiFrame := fun _ _ => ⟨Nat.le_add_left 1 r.idx, ha.idxLt, (hread r.idx).trans (if_pos rfl), fun k (hk : k < r.idx) => by
      change (Memory.read (Memory.write (appended b r).buf r.idx 0) k).getLsbD 7 = false ∧
        Memory.read (Memory.write (appended b r).buf r.idx 0) k ≠ 0x0D
      rw [hread, if_neg (by omega), ha.read_of_lt hk]
      exact (ha.ascii_bytes hhead).2 k hk⟩
    binaryPartial := fun h => nomatch h
    asciiPartial := fun h => nomatch h
    frameTail := fun _ i (hi : r.idx + 1 ≤ i) =>
      (hread i).trans (by rw [if_neg (by omega), ha.read_tail hi]) }

/-- Otherwise the frame stays partial (R91). -/
theorem inv_keep_accumulating
    (hbin : ¬ (r.idx + 1 = 9 ∧ (Memory.read (appended b r).buf 0).getLsbD 7 = true))
    (hterm : ¬ (b = 0x0D ∧ (Memory.read (appended b r).buf 0).getLsbD 7 = false)) : Inv (appended b r) where
  canonical := ha.canonical
  inRange := ha.inRange
  idxLe := ha.idxLt
  pendIdx h := by simp [ha.idle] at h
  idleKind h :=
    have ⟨hfkind, hflen, _⟩ := ha.inv.idleKind h
    ⟨hfkind, hflen, fun _ => ha.read_tail⟩
  binaryFrame h := by simp [ha.idle] at h
  asciiFrame h := by simp [ha.idle] at h
  binaryPartial _ _ hhead := by
    obtain ⟨hle, hlow⟩ := ha.binary_bytes hhead
    have hnine : r.idx + 1 ≠ 9 := fun h => hbin ⟨h, hhead⟩
    exact ⟨(by omega : r.idx + 1 ≤ 8), hlow⟩
  asciiPartial _ _ hhead k hk := by
    obtain ⟨hlow, hbytes⟩ := ha.ascii_bytes hhead
    rcases Nat.lt_succ_iff_lt_or_eq.mp hk with hlt | rfl
    · rw [ha.read_of_lt hlt]
      exact hbytes k hlt
    · rw [ha.read_last]
      exact ⟨hlow, fun h => hterm ⟨h, hhead⟩⟩
  frameTail h := by simp [ha.idle] at h

end

/-- PUSH keeps the invariants. -/
theorem inv_framerPush {b : Byte} {s t : State} (hs : Inv s) (hpend : s.pend = false) (h : framerPush b s = some t) :
    Inv t := by
  have ha := appends_pushRestart b hs hpend
  obtain ⟨r, rfl, -, a, rfl, ⟨hnine, hhead, rfl⟩ | ⟨-, hhead, rfl⟩ | ⟨hbin, hterm, rfl⟩⟩ := framerPush_cases h
  · exact inv_deliver_binary ha hnine hhead
  · exact inv_deliver_ascii ha hhead
  · exact inv_keep_accumulating ha hbin hterm

theorem inv_softReset (s : State) : Inv (softReset s) := inv_of_empty rfl rfl rfl rfl rfl

theorem inv_release (s : State) : Inv (release s) := inv_of_empty rfl rfl rfl rfl rfl

theorem inv_writeCtrl (v : Word) {s : State} (hs : Inv s) : Inv (writeCtrl v s) := by
  rcases writeCtrl_cases v s with ⟨-, h⟩ | ⟨-, -, -, h⟩ | ⟨-, -, h⟩ <;> rw [h]
  · exact inv_softReset s
  · exact inv_release s
  · exact hs

theorem Change.keeps_inv {s a b : State} (h : Change s a b) (ha : Inv a) : Inv b := by
  cases h with
  | records h => exact inv_congr ha (by rw [h]) (by rw [h]) (by rw [h]) (by rw [h]) (by rw [h]) (by rw [h])
  | reset => exact inv_of_empty rfl rfl rfl rfl rfl
  | ctrl => exact inv_writeCtrl _ ha
  | events => exact inv_congr ha rfl rfl rfl rfl rfl rfl
  | irqEn => exact inv_congr ha rfl rfl rfl rfl rfl rfl
  | push _ hpend h => exact inv_framerPush ha hpend h

/-- Settles O50: after reset the block is empty. -/
theorem resetSatisfiesInvariant : Obligations.ResetSatisfiesInvariant :=
  inv_of_empty rfl rfl rfl rfl rfl

/-- Settles O51: each elementary change keeps the invariants, and so the step does. -/
theorem stepKeepsInvariant : Obligations.StepKeepsInvariant :=
  fun _ _ hs hstep => step_keeps hstep hs fun _ _ => Change.keeps_inv

end Sys2Proof.Proofs
end

section
/-! SUPPORT. What can make PEND, an event flag or IE change, and what nothing changes (R21, R24 to R26, R45, R172). -/

namespace Sys2Proof.Proofs

open Sys2Proof Sys2Proof.Machine Sys2Proof.Laws

/-- The next input is a write to EVENTS with W1C bit `k` set (R142). -/
def NextClearsEvent (s : State) (k : Nat) : Prop := ∃ v, v.getLsbD k = true ∧ NextWrites s 3 v

/-- The next input is a write to CTRL with SRST set (R141). -/
def NextSoftResets (s : State) : Prop := ∃ v, v.getLsbD 1 = true ∧ NextWrites s 2 v

/-- The next input is a write to CTRL with ACK or SRST set (R141). -/
def NextReleases (s : State) : Prop := ∃ v, (v.getLsbD 0 = true ∨ v.getLsbD 1 = true) ∧ NextWrites s 2 v

theorem writeCtrl_params (v : Word) (s : State) : (writeCtrl v s).params = s.params := by
  rcases writeCtrl_cases v s with ⟨-, h⟩ | ⟨-, -, -, h⟩ | ⟨-, -, h⟩ <;> simp [h]

theorem writeCtrl_ie (v : Word) (s : State) : (writeCtrl v s).ie = s.ie := by
  rcases writeCtrl_cases v s with ⟨-, h⟩ | ⟨-, -, -, h⟩ | ⟨-, -, h⟩ <;> simp [h]

theorem Change.keeps_params {s a b : State} (h : Change s a b) : b.params = a.params := by
  cases h with
  | records h => rw [h]
  | reset => rfl
  | ctrl => exact writeCtrl_params _ a
  | events => rfl
  | irqEn => rfl
  | push _ _ h => exact framerPush_params h

/-- PEND stays, but for a release, a soft reset or a reset. -/
theorem Change.keeps_pend {s a b : State} (h : Change s a b) (hpend : a.pend = true) :
    b.pend = true ∨ NextResets s ∨ NextReleases s := by
  cases h with
  | records h => exact .inl (by rw [h]; exact hpend)
  | reset _ h => exact .inr (.inl h)
  | @ctrl v _ hw =>
    rcases writeCtrl_cases v a with ⟨hsrst, -⟩ | ⟨-, hack, -⟩ | ⟨-, -, h⟩
    · exact .inr (.inr ⟨v, .inr hsrst, hw⟩)
    · exact .inr (.inr ⟨v, .inl hack, hw⟩)
    · exact .inl (by rw [h]; exact hpend)
  | events => exact .inl hpend
  | irqEn => exact .inl hpend
  | push _ hidle => cases hpend.symm.trans hidle

/-- The event flag that W1C bit `k` of EVENTS clears (R36). -/
def eventFlag : Fin 2 → State → Bool
  | 0 => State.evOvf
  | 1 => State.evRsy

theorem eventFlag_congr (k : Fin 2) {a b : State} (hovf : b.evOvf = a.evOvf) (hrsy : b.evRsy = a.evRsy) :
    eventFlag k b = eventFlag k a := by
  match k with
  | 0 => exact hovf
  | 1 => exact hrsy

theorem eventFlag_writeEvents (k : Fin 2) (v : Word) (s : State) :
    eventFlag k (writeEvents v s) = (eventFlag k s && !v.getLsbD k) := by
  match k with
  | 0 => rfl
  | 1 => rfl

theorem eventFlag_framerPush (k : Fin 2) {b : Byte} {s t : State} (h : framerPush b s = some t)
    (hset : eventFlag k s = true) : eventFlag k t = true := by
  match k with
  | 0 => exact (framerPush_keeps_events h).1 hset
  | 1 => exact (framerPush_keeps_events h).2 hset

/-- An event flag stays, but for its own W1C bit, a soft reset or a reset. -/
theorem Change.keeps_eventFlag {k : Fin 2} {s a b : State} (h : Change s a b) (hset : eventFlag k a = true) :
    eventFlag k b = true ∨ NextResets s ∨ NextClearsEvent s k ∨ NextSoftResets s := by
  cases h with
  | records h => exact .inl ((eventFlag_congr k (by rw [h]) (by rw [h])).trans hset)
  | reset _ h => exact .inr (.inl h)
  | @ctrl v _ hw =>
    rcases writeCtrl_cases v a with ⟨hsrst, -⟩ | ⟨-, -, -, h⟩ | ⟨-, -, h⟩
    · exact .inr (.inr (.inr ⟨v, hsrst, hw⟩))
    · exact .inl (by rw [h, eventFlag_congr k (release_evOvf a) (release_evRsy a), hset])
    · exact .inl (by rw [h, hset])
  | @events v _ hw =>
    cases hbit : v.getLsbD k
    · exact .inl (by rw [eventFlag_writeEvents, hset, hbit]; rfl)
    · exact .inr (.inr (.inl ⟨v, hbit, hw⟩))
  | irqEn => exact .inl (by rw [eventFlag_congr k (writeIrqEn_evOvf _ a) (writeIrqEn_evRsy _ a), hset])
  | push _ _ h => exact .inl (eventFlag_framerPush k h hset)

/-- IE stays, but for a reset or a write to IRQ_EN, which also say what it is then. -/
theorem Change.keeps_ie {s a b : State} (h : Change s a b) :
    b.ie = a.ie ∨ (NextResets s ∧ b.ie = 0) ∨ ∃ v, b.ie = v.extractLsb' 0 3 ∧ NextWrites s 4 v := by
  cases h with
  | records h => exact .inl (by rw [h])
  | reset _ h => exact .inr (.inl ⟨h, rfl⟩)
  | ctrl => exact .inl (writeCtrl_ie _ a)
  | events => exact .inl rfl
  | irqEn hw => exact .inr (.inr ⟨_, rfl, hw⟩)
  | push _ _ h => exact .inl (framerPush_ie h)

/-- A flag that a step clears was cleared for a cause that holds of the whole step. -/
theorem step_clears {flag : State → Bool} {cause : Prop} {s t : State} (hstep : step s = .next t)
    (hkeep : ∀ a b, Change s a b → flag a = true → flag b = true ∨ cause) (hset : flag s = true)
    (hclear : flag t = false) : cause := by
  have hkept : flag t = true ∨ cause := step_keeps (P := fun a => flag a = true ∨ cause) hstep (.inl hset) fun a b h ha =>
    ha.elim (hkeep a b h) .inr
  exact hkept.resolve_left (by simp [hclear])

/-- The causes as the statements spell them: a reset, or the write that the next input is. -/
theorem cause_spelled {s : State} {w : BitVec 7} {Q : Word → Prop}
    (h : NextResets s ∨ ∃ v, Q v ∧ NextWrites s w v) :
    ∃ rest, (∃ p, s.inputs = .cycle p :: rest ∧ p.rst = true) ∨
      (∃ v, Q v ∧ ((∃ p b, s.inputs = .cycle p :: rest ∧ p.bus = some b ∧ b.we = true ∧ b.size = 2 ∧
          b.addr = w.setWidth 9 <<< 2 ∧ b.wdata = v) ∨
        s.inputs = .text (0x8000#16 ||| w.setWidth 16 <<< 7) (some v) :: rest)) := by
  rcases h with ⟨rest, p, hp⟩ | ⟨v, hv, rest, hw⟩
  · exact ⟨rest, .inl ⟨p, hp⟩⟩
  · exact ⟨rest, .inr ⟨v, hv, hw⟩⟩

/-- Settles O53: only a reset or a write to CTRL with ACK or SRST is an elementary change that clears PEND. -/
theorem pendFallsOnlyByReleaseOrReset : Obligations.PendFallsOnlyByReleaseOrReset := fun _ _ hset hstep hclear =>
  cause_spelled (w := 2) (step_clears (flag := State.pend) hstep (fun _ _ => Change.keeps_pend) hset hclear)

/-- A step that clears an event flag takes an input that clears it by EVENTS, by CTRL, or by reset. -/
theorem step_clears_eventFlag {k : Fin 2} {s t : State} (hstep : step s = .next t) (hset : eventFlag k s = true)
    (hclear : eventFlag k t = false) : (NextResets s ∨ NextClearsEvent s k) ∨ (NextResets s ∨ NextSoftResets s) := by
  rcases step_clears hstep (fun _ _ => Change.keeps_eventFlag (k := k)) hset hclear with hreset | hw1c | hsrst
  · exact .inl (.inl hreset)
  · exact .inl (.inr hw1c)
  · exact .inr (.inr hsrst)

/-- Settles O54: only a reset, its own W1C bit or SRST is an elementary change that clears an event flag. -/
theorem eventsFallOnlyByClearOrReset : Obligations.EventsFallOnlyByClearOrReset := fun _ _ hstep =>
  ⟨fun hset hclear =>
    (step_clears_eventFlag (k := 0) hstep hset hclear).imp (cause_spelled (w := 3)) (cause_spelled (w := 2)),
   fun hset hclear =>
    (step_clears_eventFlag (k := 1) hstep hset hclear).imp (cause_spelled (w := 3)) (cause_spelled (w := 2))⟩

/-- Settles O55: the last elementary change of IE in the step is a reset or a write to IRQ_EN. -/
theorem enablesChangeOnlyByIrqEn : Obligations.EnablesChangeOnlyByIrqEn := by
  intro s t hstep hne
  have hie : t.ie = s.ie ∨ (NextResets s ∧ t.ie = 0) ∨ ∃ v, t.ie = v.extractLsb' 0 3 ∧ NextWrites s 4 v :=
    step_keeps (P := fun a => a.ie = s.ie ∨ (NextResets s ∧ a.ie = 0) ∨ ∃ v, a.ie = v.extractLsb' 0 3 ∧ NextWrites s 4 v)
      hstep (.inl rfl) fun a b h ha => by
        rcases h.keeps_ie with hsame | hchanged
        · rw [hsame]
          exact ha
        · exact .inr hchanged
  rcases hie with hsame | ⟨⟨rest, p, hin, hrst⟩, hzero⟩ | ⟨v, hv, rest, hw⟩
  · exact absurd hsame hne
  · exact ⟨rest, .inl ⟨p, hin, hrst, hzero⟩⟩
  · exact ⟨rest, .inr ⟨v, hv, hw⟩⟩

/-- Settles O56: no elementary change, a reset neither, touches the parameters. -/
theorem parametersNeverChange : Obligations.ParametersNeverChange := fun s _ hstep =>
  step_keeps (P := fun a => a.params = s.params) hstep rfl fun _ _ h ha => h.keeps_params.trans ha

/-- Settles O14: with the index in range each step of PUSH finds its place in the buffer, and none touches the ports. -/
theorem pushCompletes : Obligations.PushCompletes := by
  have pending : ∀ (s : State) (b : Byte), s.pend = true → exec (.push b) s = .next (handshake false s) := by
    intro s b hpend
    change execPush b s = _
    rw [execPush, if_pos hpend]
  refine ⟨fun s b hidx => ?_, pending⟩
  cases hpend : s.pend
  · obtain ⟨t, ht⟩ := framerPush_isSome (b := b) hidx
    refine ⟨handshake true t, ?_, ?_⟩
    · change execPush b s = _
      simp [execPush, hpend, ht]
    · simp [framerPush_out ht]
  · exact ⟨_, pending s b hpend, rfl⟩

/-- Settles O11: `rst` overrides the other inputs of its cycle (R187). -/
theorem resetCycleFromAnyState : Obligations.ResetCycleFromAnyState := by
  intro s p rest hin hrst
  have hstep : step s = .next (popInput (resetCycle p.bus.isSome s)) := by
    unfold step
    simp only [hin, cycleStep, hrst, if_true]
  exact ⟨_, hstep, fun _ => rfl, rfl, rfl, rfl, rfl, rfl, rfl, rfl, rfl, rfl, rfl, by simp [hin]⟩

/-- Settles O49: each stored element of R44 as reset leaves it, and what R27 to R30 derive from them. -/
theorem resetValues : Obligations.ResetValues :=
  ⟨fun _ => rfl, rfl, rfl, rfl, rfl, rfl, rfl, rfl, rfl, rfl, rfl, rfl⟩

end Sys2Proof.Proofs
end

section
/-! SUPPORT. Fields in register words: where a field placed in a word is found again (R14, R33 to R39). -/

namespace Sys2Proof.Proofs

open Sys2Proof Sys2Proof.Machine Sys2Proof.Laws

/-- The bits of a field placed at bit `lo` of a word: its own from there on, and zeros below. -/
theorem getLsbD_placed {n : Nat} (x : BitVec n) (lo i : Nat) (hi : i < 32) :
    (x.setWidth 32 <<< lo).getLsbD i = (decide (lo ≤ i) && x.getLsbD (i - lo)) := by
  by_cases h : lo ≤ i
  · simp [hi, h, show ¬ i < lo by omega]
  · simp [hi, h, show i < lo by omega]

/-- A field placed in a word is read back from its place. -/
@[simp] theorem extractLsb'_placed {n : Nat} (x : BitVec n) (lo : Nat) (h : lo + n ≤ 32) :
    (x.setWidth 32 <<< lo).extractLsb' lo n = x := by
  refine BitVec.eq_of_getLsbD_eq fun i hi => ?_
  rw [BitVec.getLsbD_extractLsb', getLsbD_placed x lo _ (by omega)]
  simp [hi]

/-- Outside its place a field leaves zeros. -/
@[simp] theorem extractLsb'_placed_outside {n : Nat} (x : BitVec n) (lo start len : Nat) (hin : start + len ≤ 32)
    (h : start + len ≤ lo ∨ lo + n ≤ start) : (x.setWidth 32 <<< lo).extractLsb' start len = 0 := by
  refine BitVec.eq_of_getLsbD_eq fun i hi => ?_
  rw [BitVec.getLsbD_extractLsb', getLsbD_placed x lo _ (by omega)]
  rcases h with h | h
  · simp [show ¬ lo ≤ start + i by omega]
  · simp [BitVec.getLsbD_of_ge, show n ≤ start + i - lo by omega]

/-- The lowest field of a word has no shift. -/
@[simp] theorem extractLsb'_lowest {n : Nat} (x : BitVec n) (h : n ≤ 32) : (x.setWidth 32).extractLsb' 0 n = x := by
  simpa using extractLsb'_placed x 0 (by omega)

@[simp] theorem extractLsb'_above_lowest {n : Nat} (x : BitVec n) (start len : Nat) (hin : start + len ≤ 32)
    (h : n ≤ start) : (x.setWidth 32).extractLsb' start len = 0 := by
  simpa using extractLsb'_placed_outside x 0 start len hin (.inr (by omega))

/-- A number of `n` bits is an `n`-bit field of its word. -/
theorem zext32_eq_field {k n : Nat} (hk : k < 2 ^ n) (hn : n ≤ 32) : zext32 k = (BitVec.ofNat n k).setWidth 32 := by
  have : 2 ^ n ≤ 2 ^ 32 := Nat.pow_le_pow_right (by decide) hn
  refine BitVec.eq_of_toNat_eq ?_
  simp only [zext32, BitVec.toNat_ofNat, BitVec.toNat_setWidth, Nat.mod_eq_of_lt hk]

theorem readParam_fields (s : State) :
    (readParam s).extractLsb' 0 8 = BitVec.ofNat 8 s.params.bufCap ∧ (readParam s).extractLsb' 8 8 = 9 ∧
    (readParam s).extractLsb' 16 3 = BitVec.ofNat 3 s.params.proxBit ∧ (readParam s).extractLsb' 19 5 = 0 ∧
    (readParam s).extractLsb' 24 8 = s.params.secMask := by
  have hcap := bufCap_bounds s.params
  have hprox := proxBit_bounds s.params
  have hword : readParam s = (BitVec.ofNat 8 s.params.bufCap).setWidth 32 ||| (9 : BitVec 8).setWidth 32 <<< 8
      ||| (BitVec.ofNat 3 s.params.proxBit).setWidth 32 <<< 16 ||| s.params.secMask.setWidth 32 <<< 24 := by
    have hzcap : zext32 s.params.bufCap = _ := zext32_eq_field (n := 8) (by omega) (by decide)
    have hzprox : zext32 s.params.proxBit = _ := zext32_eq_field (n := 3) (by omega) (by decide)
    have hzlen : zext32 binLen = (9 : BitVec 8).setWidth 32 := rfl
    rw [readParam, hzcap, hzprox, hzlen]
  rw [hword]
  refine ⟨?_, ?_, ?_, ?_, ?_⟩ <;> simp [BitVec.extractLsb'_or]

theorem readStatus_fields (s : State) :
    (readStatus s).getLsbD 0 = s.pend ∧ (readStatus s).getLsbD 1 = s.fkind ∧
    (readStatus s).extractLsb' 2 2 = (mode s).code ∧ (readStatus s).getLsbD 4 = inReady s ∧
    (readStatus s).extractLsb' 5 3 = 0 ∧ (readStatus s).extractLsb' 8 8 = BitVec.ofNat 8 s.flen ∧
    (readStatus s).extractLsb' 16 8 = BitVec.ofNat 8 s.idx ∧ (readStatus s).extractLsb' 24 8 = 0 := by
  unfold readStatus bit32
  refine ⟨?_, ?_, ?_, ?_, ?_, ?_, ?_, ?_⟩ <;> simp [BitVec.extractLsb'_or]

theorem readEvents_fields (s : State) :
    (readEvents s).getLsbD 0 = s.evOvf ∧ (readEvents s).getLsbD 1 = s.evRsy ∧ (readEvents s).extractLsb' 2 30 = 0 := by
  unfold readEvents bit32
  refine ⟨?_, ?_, ?_⟩ <;> simp [BitVec.extractLsb'_or]

theorem readIrqStatus_fields (s : State) :
    (readIrqStatus s).getLsbD 0 = irqFrm s ∧ (readIrqStatus s).getLsbD 1 = irqOvf s ∧
    (readIrqStatus s).getLsbD 2 = irqRsy s ∧ (readIrqStatus s).extractLsb' 3 29 = 0 := by
  unfold readIrqStatus bit32
  refine ⟨?_, ?_, ?_, ?_⟩ <;> simp [BitVec.extractLsb'_or]

theorem pktWord_fields (c : ClsOut) :
    (pktWord c).extractLsb' 0 3 = c.kind ∧ (pktWord c).extractLsb' 3 3 = c.row ∧ (pktWord c).getLsbD 6 = c.ch ∧
    (pktWord c).getLsbD 7 = c.prox ∧ (pktWord c).getLsbD 8 = c.sec ∧ (pktWord c).extractLsb' 9 7 = 0 ∧
    (pktWord c).extractLsb' 16 8 = c.hdr ∧ (pktWord c).extractLsb' 24 8 = 0 := by
  unfold pktWord bit32
  refine ⟨?_, ?_, ?_, ?_, ?_, ?_, ?_, ?_⟩ <;> simp [BitVec.extractLsb'_or]

end Sys2Proof.Proofs
end

section
/-! SUPPORT. Which instruction stands at each word offset, and what the reads of the packet, of the fields and of the
buffer depend on (R40, R42, R43, R101, R111, R162). -/

namespace Sys2Proof.Proofs

open Sys2Proof Sys2Proof.Machine Sys2Proof.Laws

/-- MODE's code, by IDX and bit 7 of byte 0 (R27). -/
theorem mode_code (s : State) :
    (mode s).code = if s.idx = 0 then 0b00 else if (byteAt s 0).getLsbD 7 then 0b01 else 0b10 := by
  unfold mode binaryStart byteAt
  split
  · rfl
  · split <;> rfl

/-- IRQ_STATUS is zero exactly where no source is pending (R38). -/
theorem irq_iff_readIrqStatus_ne_zero (s : State) : irq s = true ↔ readIrqStatus s ≠ 0 := by
  unfold irq readIrqStatus
  cases irqFrm s <;> cases irqOvf s <;> cases irqRsy s <;> decide

theorem validBin_iff (s : State) : validBin s = true ↔ s.pend = true ∧ s.fkind = false := by
  simp [validBin]

/-- A gated register reads 0 without a pending binary frame (R117). -/
theorem readReply_gated_eq_zero {s : State} (h : ¬ (s.pend = true ∧ s.fkind = false)) (v : Word) :
    readReply (gated s v) s = .next (answered s 0) := by
  rw [gated, if_neg (mt (validBin_iff s).mp h)]
  rfl

/-- PKT lays out the classifier's outputs, the inactive ones too (R39, R101). -/
theorem readPkt_eq_pktWord (s : State) : readPkt s = pktWord (classifier s) := by
  unfold readPkt
  split
  · rfl
  · rename_i hv
    rw [classifier, clsOutputs, if_neg hv]
    rfl

theorem classifier_of_pending {s : State} (hpend : s.pend = true) (hfkind : s.fkind = false) :
    classifier s =
      { kind := (classify (byteAt s 0)).2, row := (classify (byteAt s 0)).1, ch := chOf (byteAt s 0),
        prox := proxOf s.params (classify (byteAt s 0)).2 (byteAt s 0), sec := secOf s.params (byteAt s 0),
        hdr := byteAt s 0 } :=
  if_pos ((validBin_iff s).mpr ⟨hpend, hfkind⟩)

theorem secOf_eq_decide (p : Params) (h : Byte) : secOf p h = decide (h &&& p.secMask ≠ 0) := by
  rw [Bool.eq_iff_iff]
  simp [secOf]

/-- The search tries one row: its kind and number where its test holds, else what the later rows give (R111). -/
theorem classifyFrom_cons (r : Nat) (row : ClsRow) (rows : List ClsRow) (h : Byte) :
    ((classifyFrom r (row :: rows) h).2, (classifyFrom r (row :: rows) h).1) =
      if h &&& row.mask = row.expected then (row.kind, BitVec.ofNat 3 r)
      else ((classifyFrom (r + 1) rows h).2, (classifyFrom (r + 1) rows h).1) := by
  simp only [classifyFrom, ClsRow.holds, beq_iff_eq]
  split <;> rfl

/-- The search of the table, row by row: the first match gives kind and row (R102, R111). -/
theorem classify_eq (h : Byte) :
    ((classify h).2, (classify h).1) =
      if h &&& 0xFC#8 = 0xC0#8 then (1#3, 0#3)
      else if h &&& 0xFE#8 = 0x80#8 then (2#3, 1#3)
      else if h &&& 0xB8#8 = 0xA0#8 then (3#3, 2#3)
      else if h &&& 0xBE#8 = 0xB4#8 then (3#3, 3#3)
      else if h &&& 0xBE#8 = 0xA8#8 then (4#3, 4#3)
      else if h &&& 0xBE#8 = 0xB0#8 then (4#3, 5#3)
      else if h &&& 0xBE#8 = 0xAA#8 then (5#3, 6#3)
      else (7#3, 7#3) := by
  simp only [classify, clsTable, classifyFrom_cons]
  rfl

/-- FRAME[i] reads 0 where the buffer does, and past it (R42). -/
theorem readFrame_eq_zero {s : State} {i : BitVec 6} (h : byteAt s i.toNat = 0) : readFrame i s = 0 := by
  unfold readFrame
  split
  · exact congrArg (BitVec.setWidth 32) h
  · rfl

/-- A pending frame's bytes from FLEN on are 0x00, and so is the last byte of a line (R31, R98). -/
theorem byteAt_frame_end {s : State} (hs : Inv s) (hpend : s.pend = true) {i : Nat}
    (hi : s.flen ≤ i ∨ (s.fkind = true ∧ i + 1 = s.flen)) : byteAt s i = 0 := by
  rcases hi with htail | ⟨hline, hlast⟩
  · exact hs.frameTail hpend i htail
  · obtain ⟨-, -, hnul, -⟩ := hs.asciiFrame hpend hline
    rwa [← hlast] at hnul

/-- The reserved READs stand at the offsets of R43, checked at each of the 128 offsets. -/
theorem decodeRead_mem_reservedReads : ∀ w : BitVec 7, decodeRead w.toNat ∈ reservedReads ↔
    (w.toNat = 6 ∨ w.toNat = 7 ∨ (22 ≤ w.toNat ∧ w.toNat ≤ 31) ∨ (39 ≤ w.toNat ∧ w.toNat ≤ 63)) := by
  decide

/-- Settles O25: the three effective WRITEs stand at their offsets, every other one is ignored, and a READ is reserved
at the offsets that R43 lists. -/
theorem windowMap : Obligations.WindowMap := by
  intro w
  refine ⟨fun v => ?_, _, decode_readDescr w, decodeRead_mem_reservedReads w⟩
  simp only [decode_writeDescr]
  split_ifs with h2 h3 h4
  · rw [h2]; rfl
  · rw [h3]; rfl
  · rw [h4]; rfl
  · have offset_ne : ∀ {n : BitVec 7}, w ≠ n → w.toNat ≠ n.toNat := fun h he => h (BitVec.eq_of_toNat_eq he)
    exact ⟨_, rfl, mem_ignoredWrites v w.isLt (offset_ne h2) (offset_ne h3) (offset_ne h4)⟩

/-- Settles O47: an observation latches the classifier's outputs, which PKT lays out from the same fields of the state
before and after it. -/
theorem classifierAgreesWithPkt : Obligations.ClassifierAgreesWithPkt := by
  intro s rest hin
  have hstep : step s = .next (popInput (latchCls (classifier s) s)) := by
    unfold step
    simp only [hin, classifierStep_eq]
  obtain ⟨hkind, hrow, hch, hprox, hsec, -, hhdr, -⟩ := pktWord_fields (classifier s)
  rw [← readPkt_eq_pktWord] at hkind hrow hch hprox hsec hhdr
  refine ⟨_, readPkt s, hstep, ?_, rfl, rfl, hkind, hrow, hch, hprox, hsec, hhdr⟩
  simp only [popInput, latchCls, hin, List.tail_cons]

end Sys2Proof.Proofs
end

section
/-! SUPPORT. The reads of the register window. A namespace of their own, because the statements bear the names of the
model's functions. -/

namespace Sys2Proof.Proofs.Registers

open Sys2Proof Sys2Proof.Machine Sys2Proof.Laws

/-- Settles O29: each parameter is a field of PARAM. -/
theorem readParam : Obligations.ReadParam := fun s => ⟨_, rfl, readParam_fields s⟩

/-- Settles O30: each item is a field of STATUS, MODE by its code. -/
theorem readStatus : Obligations.ReadStatus := by
  intro s
  obtain ⟨hpend, hfkind, hmode, hready, hgap, hflen, hidx, htop⟩ := readStatus_fields s
  exact ⟨_, rfl, hpend, hfkind, hmode.trans (mode_code s), hready, hgap, hflen, hidx, htop⟩

/-- Settles O31: the flags, IE and the sources are fields of their registers. -/
theorem readCtrlEventsIrq : Obligations.ReadCtrlEventsIrq := fun s =>
  ⟨rfl, ⟨_, rfl, readEvents_fields s⟩,
    ⟨_, rfl, extractLsb'_lowest s.ie (by decide), extractLsb'_above_lowest s.ie 3 29 (by decide) (by decide)⟩,
    ⟨_, rfl, readIrqStatus_fields s⟩⟩

/-- Settles O32: IRQ_STATUS shows the three sources whose OR irq is. -/
theorem irqIsAnyPendingSource : Obligations.IrqIsAnyPendingSource := fun s =>
  ⟨rfl, _, rfl, irq_iff_readIrqStatus_ne_zero s⟩

/-- Settles O33: PKT lays out the classifier's outputs, whose row and kind are those of the first match. -/
theorem readPkt : Obligations.ReadPkt := by
  intro s
  refine ⟨fun hnone => ?_, fun hpend hfkind => ⟨_, rfl, ?_⟩⟩
  · change readReply (Machine.readPkt s) s = _
    rw [Machine.readPkt, if_neg (mt (validBin_iff s).mp hnone)]
    rfl
  · obtain ⟨hkind, hrow, hch, hprox, hsec, hgap, hhdr, htop⟩ := pktWord_fields (classifier s)
    rw [readPkt_eq_pktWord, hkind, hrow, hch, hprox, hsec, hgap, hhdr, htop, classifier_of_pending hpend hfkind]
    exact ⟨classify_eq _, rfl, rfl, secOf_eq_decide _ _, rfl, rfl, rfl⟩

/-- Settles O40: all 13 registers are gated by VALID_BIN. -/
theorem fieldsReadZeroWithoutBinaryFrame : Obligations.FieldsReadZeroWithoutBinaryFrame := by
  intro s h
  have hzero := readReply_gated_eq_zero h
  exact ⟨hzero _, hzero _, hzero _, hzero _, hzero _, hzero _, hzero _, hzero _, hzero _, hzero _, hzero _, hzero _, hzero _⟩

/-- Settles O41: the seven rows of the table, laid out as words. -/
theorem readClsRows : Obligations.ReadClsRows := fun _ => ⟨rfl, rfl, rfl, rfl, rfl, rfl, rfl⟩

/-- Settles O42: FRAME[i] is byte i of the buffer, and a pending frame's end is zeros. -/
theorem readFrameWindow : Obligations.ReadFrameWindow := by
  refine ⟨fun s i => ⟨fun hlt => ?_, fun hge => ?_⟩, fun s i hs hpend hi => ?_⟩
  · change readReply (readFrame i s) s = _
    rw [readFrame, if_pos hlt]
    rfl
  · change readReply (readFrame i s) s = _
    rw [readFrame, if_neg (by omega)]
    rfl
  · change readReply (readFrame i s) s = _
    rw [readFrame_eq_zero (byteAt_frame_end hs hpend hi)]
    rfl

/-- Settles O43: each of the 37 reserved READs. -/
theorem readReserved : Obligations.ReadReserved := by
  intro s i hi
  fin_cases hi <;> rfl

end Sys2Proof.Proofs.Registers
end

section
/-! SUPPORT. A clock cycle without reset: the instruction that its bus access is, and the order of its phases (R52, R167).
-/

namespace Sys2Proof.Proofs

open Sys2Proof Sys2Proof.Machine Sys2Proof.Laws

theorem isPush_iff (i : Instr) : isPush i = true ↔ ∃ b, i = .push b := by
  unfold isPush
  split
  · simp
  · rename_i hne
    simpa using hne

theorem writeCtrl_inputs (v : Word) (s : State) : (writeCtrl v s).inputs = s.inputs := by
  rcases writeCtrl_cases v s with ⟨-, h⟩ | ⟨-, -, -, h⟩ | ⟨-, -, h⟩ <;> simp [h]

/-- No instruction takes an input; the step that runs it does. -/
theorem exec_inputs {i : Instr} {s t : State} (h : exec i s = .next t) : t.inputs = s.inputs := by
  cases hpush : isPush i
  case true =>
    obtain ⟨b, rfl⟩ := (isPush_iff i).mp hpush
    rcases exec_push_eq_next h with ⟨-, rfl⟩ | ⟨-, u, hu, rfl⟩
    · rfl
    · rw [handshake_inputs, framerPush_eq hu]
  case false =>
    obtain ⟨u, hexec, hu⟩ := exec_of_not_push i s hpush
    obtain rfl : u = t := by simpa [hexec] using h
    rcases hu with hrecords | ⟨v, -, rfl⟩ | ⟨v, -, rfl⟩ | ⟨v, -, rfl⟩
    · rw [hrecords]
    · exact writeCtrl_inputs v s
    · rfl
    · rfl

theorem popInput_of_inputs {s : State} {i : Input} {rest : List Input} (h : s.inputs = i :: rest) :
    popInput s = { s with inputs := rest } := by
  rw [popInput, h, List.tail_cons]

/-- The instruction that a bus access is (R52, R70). -/
def busInstr (b : BusReq) : Instr :=
  if b.size = 2 ∧ b.addr.extractLsb' 0 2 = 0 then
    if b.we then decodeWrite b.wdata (b.addr.extractLsb' 2 7).toNat else decodeRead (b.addr.extractLsb' 2 7).toNat
  else .badacc

theorem busInstr_of_narrow_or_misaligned {b : BusReq} (h : b.size ≠ 2 ∨ b.addr.extractLsb' 0 2 ≠ 0) :
    busInstr b = .badacc :=
  if_neg fun hwide => h.elim (· hwide.1) (· hwide.2)

theorem busPhase_some (b : BusReq) (s : State) : busPhase (some b) s = exec (busInstr b) s :=
  runCode_of_decode (decode_busCode b) s

/-- A bus access always completes (R54, R170). -/
theorem exec_busInstr_answers (b : BusReq) (s : State) : ∃ u, exec (busInstr b) s = .next u := by
  unfold busInstr
  split_ifs
  · exact (decodeWrite_cases _ _ s).imp fun _ h => h.1
  · exact (decodeRead_cases _ s).imp fun _ h => h.1
  · exact ⟨_, rfl⟩

theorem busPhase_answers (bus : Option BusReq) (s : State) :
    ∃ u, busPhase bus s = .next u ∧ u.inputs = s.inputs := by
  cases bus with
  | none => exact ⟨s, rfl, rfl⟩
  | some b =>
    obtain ⟨u, hu⟩ := exec_busInstr_answers b s
    exact ⟨u, (busPhase_some b s).trans hu, exec_inputs hu⟩

theorem pushPhase_some (x : Byte) (ready : Bool) (s : State) :
    pushPhase (some x) ready s = if ready then exec (.push x) s else .next s := by
  rw [← runCode_of_decode (decode_byteCode x)]
  rfl

theorem step_cycle {s : State} {p : PortsIn} {rest : List Input} (hin : s.inputs = .cycle p :: rest)
    (hrst : p.rst = false) :
    step s = mapNext (andThen (busPhase p.bus (beginCycle s)) (pushPhase p.byte (inReady s))) popInput := by
  unfold step
  simp only [hin, cycleStep, hrst, Bool.false_eq_true, if_false]

/-- Settles O9: the bus phase always answers, and no instruction takes the input that ends with the cycle. -/
theorem cycleRunsBusThenPush : Obligations.CycleRunsBusThenPush := by
  intro s p rest hin hrst
  obtain ⟨u, hbus, hinputs⟩ := busPhase_answers p.bus (beginCycle s)
  have pop : ∀ {w : State}, w.inputs = u.inputs → popInput w = { w with inputs := rest } := fun h =>
    popInput_of_inputs (h.trans (hinputs.trans hin))
  refine ⟨u, ?_, ?_⟩
  · cases hb : p.bus with
    | none =>
      rw [hb] at hbus
      cases hbus
      rfl
    | some b => rwa [hb, busPhase_some] at hbus
  · rw [step_cycle hin hrst, hbus, andThen_next]
    cases p.byte with
    | none => exact congrArg Host.Outcome.next (pop rfl)
    | some x =>
      rw [pushPhase_some]
      cases hpend : s.pend with
      | true => simp [inReady, hpend, pop rfl]
      | false =>
        cases hexec : exec (.push x) u with
        | next w => simp [inReady, hpend, hexec, pop (exec_inputs hexec)]
        | fault f => cases f
        | refused r => simp [inReady, hpend, hexec, mapNext, andThen]

/-- Settles O27: such an access is BADACC, whatever its direction and offset, and BADACC answers on the ports only. -/
theorem narrowOrMisalignedAccess : Obligations.NarrowOrMisalignedAccess := by
  intro s b rest hin hbad
  have hbus : busPhase (some b) (beginCycle s) = .next (raiseBusError (beginCycle s)) := by
    rw [busPhase_some, busInstr_of_narrow_or_misaligned hbad]
    rfl
  calc step s = .next (popInput (raiseBusError (beginCycle s))) := by
        rw [step_cycle hin rfl, hbus]
        rfl
    _ = _ := by
        rw [popInput_of_inputs (s := raiseBusError (beginCycle s)) hin]
        rfl

end Sys2Proof.Proofs
end

section
/-! SUPPORT. The READs: where each stands in the window, and that it answers and changes nothing else (R43, R54, R136). -/

namespace Sys2Proof.Proofs

open Sys2Proof Sys2Proof.Machine Sys2Proof.Laws

/-- A READ at any offset is a reply with some value (R54, R136). -/
theorem exec_decodeRead (w : Nat) (s : State) : ∃ v, exec (decodeRead w) s = .next (answered s v) := by
  unfold decodeRead
  split <;> exact ⟨_, rfl⟩

/-- Offsets 0 to 63 are the registers and the reserved offsets, 64 to 127 the buffer (R43), checked at each. -/
theorem decodeRead_window : ∀ w : BitVec 7,
    if w.toNat < 64 then decodeRead w.toNat ∈ fixedReads
    else decodeRead w.toNat = .rdFrame (BitVec.ofNat 6 (w.toNat - 64)) := by
  decide

/-- Each register and reserved offset has a word offset below 64 (R43, R72). -/
theorem fixedReads_subset : fixedReads ⊆ (List.range 64).map decodeRead := by
  decide

/-- Settles O28: each READ has an offset, and a READ at any offset is a reply. -/
theorem readsHaveNoSideEffects : Obligations.ReadsHaveNoSideEffects := by
  refine ⟨fun s i hi => ?_, fun w => ⟨_, decode_readDescr w, ?_⟩⟩
  · rcases hi with hfixed | ⟨k, rfl⟩
    · obtain ⟨w, -, rfl⟩ := List.mem_map.mp (fixedReads_subset hfixed)
      exact exec_decodeRead w s
    · exact ⟨_, rfl⟩
  · have hwindow := decodeRead_window w
    split at hwindow
    · exact .inl hwindow
    · exact .inr ⟨_, hwindow⟩

end Sys2Proof.Proofs
end

section
/-! SUPPORT. A pending frame is held: what an elementary change does to it, and what the reads of it depend on (R58). -/

namespace Sys2Proof.Proofs

open Sys2Proof Sys2Proof.Machine Sys2Proof.Laws

/-- `t` holds the frame of `s`: they differ in the event flags, IE and the model's own records only. -/
def HoldsFrameOf (s t : State) : Prop :=
  ∃ o y e p c l, t = { s with evOvf := o, evRsy := y, ie := e, out := p, cls := c, inputs := l }

theorem HoldsFrameOf.refl (s : State) : HoldsFrameOf s s := ⟨_, _, _, _, _, _, rfl⟩

theorem HoldsFrameOf.trans {s t u : State} (hst : HoldsFrameOf s t) (htu : HoldsFrameOf t u) : HoldsFrameOf s u := by
  obtain ⟨_, _, _, _, _, _, rfl⟩ := hst
  obtain ⟨_, _, _, _, _, _, rfl⟩ := htu
  exact ⟨_, _, _, _, _, _, rfl⟩

theorem HoldsFrameOf.pend {s t : State} (h : HoldsFrameOf s t) : t.pend = s.pend := by
  obtain ⟨_, _, _, _, _, _, rfl⟩ := h
  rfl

/-- In the step of a state with a pending frame an elementary change releases the frame or leaves it alone: the PUSH that
could fill the buffer again is not enabled (R28, R167). -/
theorem Change.holds_frame {s a b : State} (h : Change s a b) (hs : s.pend = true) : b.pend = false ∨ HoldsFrameOf a b := by
  cases h with
  | records h => exact .inr ⟨_, _, _, _, _, _, h⟩
  | reset => exact .inl rfl
  | @ctrl v =>
    rcases writeCtrl_cases v a with ⟨-, h⟩ | ⟨-, -, -, h⟩ | ⟨-, -, h⟩ <;> rw [h]
    · exact .inl rfl
    · exact .inl rfl
    · exact .inr (.refl a)
  | events => exact .inr ⟨_, _, _, _, _, _, rfl⟩
  | irqEn => exact .inr ⟨_, _, _, _, _, _, rfl⟩
  | push hidle => cases hs.symm.trans hidle

theorem step_holds_frame {s t : State} (hs : s.pend = true) (hstep : step s = .next t) (ht : t.pend = true) :
    HoldsFrameOf s t :=
  step_keeps (P := fun a => a.pend = true → HoldsFrameOf s a) hstep (fun _ => .refl s)
    (fun a b h ha hb => by
      rcases h.holds_frame hs with hreleased | hheld
      · cases hb.symm.trans hreleased
      · exact (ha (hheld.pend.symm.trans hb)).trans hheld)
    ht

/-- The READs of the packet and of its fields (R146 to R159). -/
def frameReads : List Instr := [
  .rdPkt, .rdPosX, .rdPosY, .rdPressure, .rdTiltX, .rdTiltY, .rdTiltXb, .rdTiltYb, .rdThrottle, .rdRelWheel, .rdRotRaw,
  .rdRotAngle, .rdToolId, .rdSerial ]

/-- The READs of the packet, of its fields and of the buffer depend on the frame and the parameters only (R39, R40, R42). -/
theorem HoldsFrameOf.reads_alike {s t : State} (h : HoldsFrameOf s t) {i : Instr}
    (hi : i ∈ frameReads ∨ ∃ k, i = .rdFrame k) :
    ∃ v, exec i s = .next (answered s v) ∧ exec i t = .next (answered t v) := by
  obtain ⟨_, _, _, _, _, _, rfl⟩ := h
  rcases hi with hfield | ⟨k, rfl⟩
  · fin_cases hfield <;> exact ⟨_, rfl, rfl⟩
  · exact ⟨_, rfl, rfl⟩

/-- Settles O52: a step that leaves PEND set holds the frame, and what is read of it follows. -/
theorem frameHeldWhilePending : Obligations.FrameHeldWhilePending := by
  intro s t hs hstep ht
  have hheld := step_holds_frame hs hstep ht
  have hreads := fun i => hheld.reads_alike (i := i)
  obtain ⟨_, _, _, _, _, _, rfl⟩ := hheld
  exact ⟨rfl, rfl, rfl, rfl, hreads⟩

end Sys2Proof.Proofs
end

section
/-! SUPPORT. The encoding: which descriptors are reserved, what the others are, and that decoding and encoding undo each
other (R68, R70 to R72, R102). -/

namespace Sys2Proof.Proofs

open Sys2Proof Sys2Proof.Machine Sys2Proof.Laws

/-- A bit that R70 requires to be 0 for the descriptor's class is not 0 (R71). -/
def IsReserved (t : Descr) : Prop :=
  (t.extractLsb' 14 2 = 0b00 ∧ t.extractLsb' 8 6 ≠ 0) ∨ (t.extractLsb' 14 2 = 0b01 ∧ t.extractLsb' 0 7 ≠ 0) ∨
    (t.extractLsb' 14 2 = 0b10 ∧ t.extractLsb' 0 7 ≠ 0) ∨ (t.extractLsb' 14 2 = 0b11 ∧ t.extractLsb' 0 14 ≠ 0)

theorem decode_reserved {t : Descr} (h : IsReserved t) (p : Option Word) :
    decode (.xact t p) = .reject (.reservedDescriptor t) := by
  rcases h with ⟨hclass, hzero⟩ | ⟨hclass, hzero⟩ | ⟨hclass, hzero⟩ | ⟨hclass, hzero⟩ <;>
    simp only [decode, decodeXact, hclass, if_neg hzero] <;> rfl

/-- A class-0 descriptor with its zero bits zero is that of an offered byte. -/
theorem descr_of_push {t : Descr} (hclass : t.extractLsb' 14 2 = 0b00) (hzero : t.extractLsb' 8 6 = 0) :
    t = (t.extractLsb' 0 8).setWidth 16 := by
  have hparts : t = (t.extractLsb' 14 2).setWidth 16 <<< 14 ||| (t.extractLsb' 8 6).setWidth 16 <<< 8
      ||| (t.extractLsb' 0 8).setWidth 16 := by
    ext k hk; interval_cases k <;> simp [BitVec.getLsbD_of_ge]
  conv_lhs => rw [hparts, hclass, hzero]
  simp

/-- A descriptor with its low seven bits zero is its class and its word offset. -/
theorem descr_of_access {t : Descr} {c : BitVec 2} (hclass : t.extractLsb' 14 2 = c) (hzero : t.extractLsb' 0 7 = 0) :
    t = c.setWidth 16 <<< 14 ||| (t.extractLsb' 7 7).setWidth 16 <<< 7 := by
  conv_lhs => rw [descr_eq_parts t, hclass, hzero]
  simp

/-- The class-3 descriptor with its zero bits zero is that of BADACC. -/
theorem descr_of_badacc {t : Descr} (hclass : t.extractLsb' 14 2 = 0b11) (hzero : t.extractLsb' 0 14 = 0) :
    t = 0xC000 := by
  have hparts : t = (t.extractLsb' 14 2).setWidth 16 <<< 14 ||| (t.extractLsb' 0 14).setWidth 16 := by
    ext k hk; interval_cases k <;> simp [BitVec.getLsbD_of_ge]
  conv_lhs => rw [hparts, hclass, hzero]
  rfl

/-- Settles O5: with its zero bits zero a descriptor is one of the four shapes, and each shape decodes. -/
theorem descriptorClasses : Obligations.DescriptorClasses := by
  refine fun t => ⟨fun hclass hzero => ?_, fun hclass hzero => ?_, fun hclass hzero v => ?_, fun hclass hzero => ?_⟩
  · conv_lhs => rw [descr_of_push hclass hzero]
    exact decode_byteCode _
  · rw [descr_of_access hclass hzero]
    exact readsHaveNoSideEffects.2 _
  · obtain ⟨hwrite, -⟩ := windowMap (t.extractLsb' 7 7)
    specialize hwrite v
    rw [descr_of_access hclass hzero]
    split_ifs at hwrite
    · exact ⟨_, hwrite, .inl rfl⟩
    · exact ⟨_, hwrite, .inr (.inl rfl)⟩
    · exact ⟨_, hwrite, .inr (.inr (.inl rfl))⟩
    · obtain ⟨i, hdec, hi⟩ := hwrite
      exact ⟨i, hdec, .inr (.inr (.inr hi))⟩
  · rw [descr_of_badacc hclass hzero]
    rfl

/-- The word of a READ is that of its offset (R72), checked at each of the 128 offsets. -/
theorem encode_decodeRead : ∀ w : BitVec 7,
    encode (decodeRead w.toNat) = .xact (0x4000#16 ||| w.setWidth 16 <<< 7) none := by
  decide

/-- The word of a WRITE is that of its offset, with the payload beside it (R72). -/
theorem encode_decodeWrite (v : Word) (w : BitVec 7) :
    encode (decodeWrite v w.toNat) = .xact (0x8000#16 ||| w.setWidth 16 <<< 7) (some v) := by
  have hoffset : ∀ n < 128, encode (decodeWrite v n) = .xact (0x8000#16 ||| BitVec.ofNat 16 n <<< 7) (some v) := by
    intro n hn
    interval_cases n <;> rfl
  rw [hoffset w.toNat w.isLt, BitVec.ofNat_toNat]

/-- A line that decodes has the words of the instruction, the payload included. -/
theorem encode_of_decode_xact {t : Descr} {p : Option Word} {i : Instr} (h : decode (.xact t p) = .instr i) :
    encode i = .xact t p := by
  simp only [decode, decodeXact] at h
  -- A reserved descriptor and a wrong payload shape are rejected; one case is left for each class.
  split_ifs at h with hpush hzero hread hzero hwrite hzero hzero <;> cases p <;> cases h
  · conv_rhs => rw [descr_of_push hpush hzero]
    rfl
  · conv_rhs => rw [descr_of_access hread hzero]
    exact encode_decodeRead _
  · conv_rhs => rw [descr_of_access hwrite hzero]
    exact encode_decodeWrite _ _
  · have hclass : ∀ c : BitVec 2, c ≠ 0b00 → c ≠ 0b01 → c ≠ 0b10 → c = 0b11 := by decide
    rw [descr_of_badacc (hclass _ hpush hread hwrite) hzero]
    rfl

theorem encode_of_headerRow {i : Instr} {row kind : BitVec 3} {h : Byte} (hi : headerRow i = some (row, kind, h)) :
    encode i = .header h := by
  cases i <;> cases hi <;> rfl

/-- A header row's instruction is well-formed where the search of the table gives its row (R111). -/
theorem wf_of_headerRow {i : Instr} {kind : BitVec 3} {h : Byte} (hi : headerRow i = some ((classify h).1, kind, h)) :
    Instr.wf i = true := by
  cases i
  case pktUnknown mid ch =>
    simp only [headerRow, Option.some.injEq, Prod.mk.injEq] at hi
    obtain ⟨hrow, -, hh⟩ := hi
    simp [Instr.wf, hh, ← hrow]
  all_goals rfl

/-- Only a header row's instruction can fail to be well-formed. -/
theorem wf_of_decode_xact {t : Descr} {p : Option Word} {i : Instr} (h : decode (.xact t p) = .instr i) :
    Instr.wf i = true := by
  have hcode := encode_of_decode_xact h
  cases i
  case pktUnknown => cases hcode
  all_goals rfl

/-- Settles O2: a line by its class, a header by the row that the search of the table gives. -/
theorem encodeOfDecode : Obligations.EncodeOfDecode := by
  intro c i h
  cases c with
  | xact t p => exact ⟨encode_of_decode_xact h, wf_of_decode_xact h⟩
  | header b =>
    have hrow := headerRow_of_decode h
    exact ⟨encode_of_headerRow hrow, wf_of_headerRow hrow⟩

/-- FRAME[k] stands at offset 64 + k (R43, R72), checked at each index. -/
theorem decode_encode_rdFrame : ∀ k : BitVec 6, decode (encode (.rdFrame k)) = .instr (.rdFrame k) := by
  decide

/-- Settles O1: PUSH and RD FRAME carry their operand in the descriptor, a header row its free bits in the header, where
each of their values is read back; the word of any other instruction is fixed, its payload standing beside it. -/
theorem decodeOfEncode : Obligations.DecodeOfEncode := by
  intro i hwf
  cases i
  case push b => exact decode_byteCode b
  case rdFrame k => exact decode_encode_rdFrame k
  case pktRow0DeviceId | pktRow1OutOfProx | pktRow2Stylus | pktRow3Stylus | pktRow4Cursor1 | pktRow5Cursor1
      | pktRow6Cursor2 | pktUnknown => decide +revert
  all_goals rfl

/-- Settles O3: each word is decoded. -/
theorem decodedWords : Obligations.DecodedWords := by
  unfold Obligations.DecodedWords
  decide

end Sys2Proof.Proofs
end

section
/-! SUPPORT. A step on a line of text, and that a step always answers (R71, R75, R77, R169). -/

namespace Sys2Proof.Proofs

open Sys2Proof Sys2Proof.Machine Sys2Proof.Laws

theorem step_text_of_reject {s : State} {t : Descr} {p : Option Word} {rest : List Input} {e : DecodeError}
    (hin : s.inputs = .text t p :: rest) (hdec : decode (.xact t p) = .reject e) : step s = .refused (refusalOf e) := by
  unfold step
  simp only [hin, textStep, hdec]

theorem step_text_of_instr {s : State} {t : Descr} {p : Option Word} {rest : List Input} {i : Instr}
    (hin : s.inputs = .text t p :: rest) (hdec : decode (.xact t p) = .instr i) :
    step s = mapNext (exec i (beginCycle s)) (afterText i) := by
  unfold step
  simp only [hin, textStep, hdec]

/-- Settles O4: a reserved descriptor is rejected by the decoder, and the step refuses what the decoder rejects. -/
theorem reservedDescriptorRefused : Obligations.ReservedDescriptorRefused := fun _ _ p _ hin hres =>
  step_text_of_reject hin (decode_reserved hres p)

/-- Settles O7: the step joins the start of the cycle, the instruction, and the end of the line. -/
theorem textStepRunsInstruction : Obligations.TextStepRunsInstruction := by
  intro s t p rest i hin hdec
  rw [step_text_of_instr hin hdec, beginCycle]
  generalize exec i { s with out := _ } = o
  cases o with
  | next u => simp [afterText, popInput]
  | fault f => rfl
  | refused r => rfl

/-- A line PUSH while a frame is pending shows its cycle on the ports and stays (R77, I13). -/
theorem step_stuck_push {s : State} {b : Byte} {rest : List Input}
    (hin : s.inputs = .text (b.setWidth 16) none :: rest) (hpend : s.pend = true) :
    step s = .next { s with out := { rdata := 0, err := false, inReady := false, accepted := false } } := by
  have hexec : exec (.push b) (beginCycle s) = .next (handshake false (beginCycle s)) :=
    pushCompletes.2 (beginCycle s) b hpend
  rw [step_text_of_instr hin (decode_byteCode b), hexec]
  simp [afterText, isPush, handshake, beginCycle, hpend]

/-- Settles O13: the line is still the next input and the frame still pending, so the step repeats itself. -/
theorem stuckPush : Obligations.StuckPush := fun _ _ _ hin hpend =>
  ⟨_, step_stuck_push hin hpend, rfl, step_stuck_push hin hpend⟩

/-- With the index in range every instruction answers (R169). -/
theorem exec_answers {s : State} (hidx : s.idx ≤ s.params.bufCap) (i : Instr) : ∃ u, exec i s = .next u := by
  cases hpush : isPush i
  case true =>
    obtain ⟨b, rfl⟩ := (isPush_iff i).mp hpush
    exact (pushCompletes.1 s b hidx).imp fun _ h => h.1
  case false => exact (exec_of_not_push i s hpush).imp fun _ h => h.1

theorem pushPhase_answers {s : State} (hidx : s.idx ≤ s.params.bufCap) (byte : Option Byte) (ready : Bool) :
    ∃ u, pushPhase byte ready s = .next u := by
  cases byte with
  | none => exact ⟨s, rfl⟩
  | some b =>
    rw [pushPhase_some]
    cases ready
    · exact ⟨s, rfl⟩
    · exact exec_answers hidx (.push b)

theorem Changes.keeps_inv {s a b : State} (h : Changes s a b) (ha : Inv a) : Inv b := by
  induction h with
  | refl => exact ha
  | tail _ hchange ih => exact hchange.keeps_inv ih

/-- A clock cycle answers: the bus phase keeps the index in range for the push phase (R31, R167). -/
theorem step_cycle_answers {s : State} (hs : Inv s) {p : PortsIn} {rest : List Input}
    (hin : s.inputs = .cycle p :: rest) : ∃ u, step s = .next u := by
  cases hrst : p.rst
  case true =>
    refine ⟨popInput (resetCycle p.bus.isSome s), ?_⟩
    unfold step
    simp only [hin, cycleStep, hrst, if_true]
  case false =>
    obtain ⟨u, hbus, -⟩ := busPhase_answers p.bus (beginCycle s)
    have hbegin : Inv (beginCycle s) := (Change.records (s := s) rfl).keeps_inv hs
    have hu : Inv u := (changes_of_busPhase hin hbus).keeps_inv hbegin
    obtain ⟨w, hpush⟩ := pushPhase_answers hu.idxLe p.byte (inReady s)
    exact ⟨popInput w, by rw [step_cycle hin hrst, hbus, andThen_next, hpush, mapNext_next]⟩

/-- Settles O12: each kind of input answers, a line because it decodes. -/
theorem stepNeverStops : Obligations.StepNeverStops := by
  intro s hs htext
  match hin : s.inputs with
  | [] => exact ⟨beginCycle s, by unfold step; simp only [hin, idleStep]⟩
  | .text t p :: rest =>
    obtain ⟨i, hdec⟩ := htext t p rest hin
    obtain ⟨u, hexec⟩ := exec_answers (s := beginCycle s) hs.idxLe i
    exact ⟨afterText i u, by rw [step_text_of_instr hin hdec, hexec, mapNext_next]⟩
  | .cycle p :: rest => exact step_cycle_answers hs hin
  | .classify :: rest =>
    exact ⟨popInput (latchCls (classifier s) s), by unfold step; simp only [hin, classifierStep_eq]⟩

end Sys2Proof.Proofs
end

section
/-! SUPPORT. The field functions of 42_fields.md as slices of the frame's bytes (R65, R118 to R130). -/

namespace Sys2Proof.Proofs

open Sys2Proof Sys2Proof.Machine Sys2Proof.Laws

/-- A gated register reads its value while a binary frame is pending (R117). -/
theorem readReply_gated {s : State} (hpend : s.pend = true) (hfkind : s.fkind = false) (v : Word) :
    readReply (gated s v) s = .next (answered s v) := by
  rw [gated, if_pos ((validBin_iff s).mpr ⟨hpend, hfkind⟩)]
  rfl

theorem zext32_or (a b : Nat) : zext32 (a ||| b) = zext32 a ||| zext32 b := BitVec.ofNat_or

theorem zext32_shiftLeft (a n : Nat) : zext32 (a <<< n) = zext32 a <<< n := by
  refine BitVec.eq_of_getLsbD_eq fun i hi => ?_
  rw [zext32, zext32, BitVec.getLsbD_shiftLeft, BitVec.getLsbD_ofNat, BitVec.getLsbD_ofNat, Nat.testBit_shiftLeft]
  by_cases h : n ≤ i
  · simp [hi, h, show i - n < 32 by omega]
  · simp [h]

/-- Masking a byte and shifting the masked bits down gives the slice whose bits the mask selects. -/
theorem zext32_masked_shifted (s : State) (i m lo n : Nat) (hm : m >>> lo = 2 ^ n - 1) :
    zext32 ((d s i &&& m) >>> lo) = slice32 s i lo n := by
  have hbits : (d s i &&& m) >>> lo = ((byteAt s i).extractLsb' lo n).toNat := by
    rw [Nat.shiftRight_and_distrib, hm, Nat.and_two_pow_sub_one_eq_mod, BitVec.extractLsb'_toNat]
    rfl
  rw [hbits, zext32, BitVec.ofNat_toNat, slice32]

theorem zext32_masked (s : State) (i m n : Nat) (hm : m = 2 ^ n - 1) : zext32 (d s i &&& m) = slice32 s i 0 n :=
  zext32_masked_shifted s i m 0 n hm

/-- The seven data bits of a byte (R65). -/
theorem zext32_dataBits (s : State) (i : Nat) : zext32 (d s i &&& 0x7f) = slice32 s i 0 7 :=
  zext32_masked s i 0x7f 7 rfl

/-- Settles O34: the masks and shifts of R118 and R119 select the slices, each shifted to its place. -/
theorem readPosition : Obligations.ReadPosition := by
  intro s hpend hfkind
  constructor
  · change readReply (gated s (zext32 (posX (d s 1) (d s 2) (d s 3)))) s = _
    rw [readReply_gated hpend hfkind]
    simp only [posX, zext32_or, zext32_shiftLeft, zext32_dataBits, zext32_masked_shifted s 3 0x60 5 2 rfl]
  · change readReply (gated s (zext32 (posY (d s 3) (d s 4) (d s 5)))) s = _
    rw [readReply_gated hpend hfkind]
    simp only [posY, zext32_or, zext32_shiftLeft, zext32_dataBits,
      zext32_masked s 3 0x1f 5 rfl, zext32_masked_shifted s 5 0x78 3 4 rfl]

/-- The magnitude that PRESSURE and THROTTLE share (R121). -/
theorem zext32_pressure (s : State) :
    zext32 (pressure (d s 5) (d s 6)) = slice32 s 5 0 3 <<< 7 ||| slice32 s 6 0 7 := by
  rw [pressure, zext32_or, zext32_shiftLeft, zext32_masked s 5 0x07 3 rfl, zext32_dataBits]

/-- Masking out one bit of a byte tests it. -/
theorem masked_bit_ne_zero_iff (s : State) (i k : Nat) : d s i &&& 2 ^ k ≠ 0 ↔ (byteAt s i).getLsbD k = true := by
  have hbit : (byteAt s i).getLsbD k = (d s i).testBit k := rfl
  rw [hbit, Nat.and_two_pow]
  cases (d s i).testBit k <;> simp

/-- THROTTLE is the magnitude, negated where d8[3] = 1 (R125). -/
theorem sext32_throttle (s : State) :
    sext32 (throttle (d s 5) (d s 6) (d s 8)) =
      if (byteAt s 8).getLsbD 3 then -zext32 (pressure (d s 5) (d s 6)) else zext32 (pressure (d s 5) (d s 6)) := by
  have hsign : d s 8 &&& 0x08 ≠ 0 ↔ (byteAt s 8).getLsbD 3 = true := masked_bit_ne_zero_iff s 8 3
  simp only [throttle, hsign]
  split
  · rw [sext32, BitVec.ofInt_neg, BitVec.ofInt_natCast, zext32]
  · rw [sext32, BitVec.ofInt_natCast, zext32]

/-- Settles O36: both registers read the shared magnitude. -/
theorem readPressureAndThrottle : Obligations.ReadPressureAndThrottle := by
  intro s hpend hfkind
  constructor
  · change readReply (gated s (zext32 (pressure (d s 5) (d s 6)))) s = _
    rw [readReply_gated hpend hfkind, zext32_pressure]
  · change readReply (gated s (sext32 (throttle (d s 5) (d s 6) (d s 8)))) s = _
    rw [readReply_gated hpend hfkind, sext32_throttle, zext32_pressure]

/-- Settles O39: the masks and shifts of R129 and R130 select the slices, each shifted to its place. -/
theorem readToolIdAndSerial : Obligations.ReadToolIdAndSerial := by
  intro s hpend hfkind
  constructor
  · change readReply (gated s (zext32 (toolId (d s 1) (d s 2)))) s = _
    rw [readReply_gated hpend hfkind]
    simp only [toolId, zext32_or, zext32_shiftLeft, zext32_dataBits, zext32_masked_shifted s 2 0x7c 2 5 rfl]
  · change readReply (gated s (zext32 (serial (d s 2) (d s 3) (d s 4) (d s 5) (d s 6) (d s 7)))) s = _
    rw [readReply_gated hpend hfkind]
    simp only [serial, zext32_or, zext32_shiftLeft, zext32_dataBits,
      zext32_masked s 2 0x03 2 rfl, zext32_masked_shifted s 7 0x60 5 2 rfl]

end Sys2Proof.Proofs
end

section
/-! SUPPORT. The UNKNOWN header (R111 to R114). -/

namespace Sys2Proof.Proofs

open Sys2Proof Sys2Proof.Machine Sys2Proof.Laws

/-- A header that the search finds in no row fails each row's test (R111). -/
theorem fails_every_row {h : Byte} (hrow : (classify h).1 = 7) :
    h &&& 0xFC#8 ≠ 0xC0#8 ∧ h &&& 0xFE#8 ≠ 0x80#8 ∧ h &&& 0xB8#8 ≠ 0xA0#8 ∧ h &&& 0xBE#8 ≠ 0xB4#8 ∧
      h &&& 0xBE#8 ≠ 0xA8#8 ∧ h &&& 0xBE#8 ≠ 0xB0#8 ∧ h &&& 0xBE#8 ≠ 0xAA#8 := by
  have hsearch := classify_eq h
  rw [hrow] at hsearch
  split_ifs at hsearch with h0 h1 h2 h3 h4 h5 h6
  case neg => exact ⟨h0, h1, h2, h3, h4, h5, h6⟩
  all_goals simp at hsearch

/-- Settles O45: a well-formed UNKNOWN header fails every test, and its kind carries no proximity bit (R113). -/
theorem unknownHeaderOutputs : Obligations.UnknownHeaderOutputs := by
  intro s hpend hfkind mid ch hwf
  have hrow : (classify (unknownHeader mid ch)).1 = 7 := by simpa [Instr.wf] using hwf
  have htop : (unknownHeader mid ch).getLsbD 7 = true := by simp [unknownHeader]
  have hout : clsOutputs s 7 kindUnknown (unknownHeader mid ch) =
      { kind := 7, row := 7, ch := (unknownHeader mid ch).getLsbD 0, prox := false,
        sec := decide (unknownHeader mid ch &&& s.params.secMask ≠ 0), hdr := unknownHeader mid ch } := by
    rw [clsOutputs, if_pos ((validBin_iff s).mpr ⟨hpend, hfkind⟩), secOf_eq_decide]
    rfl
  obtain ⟨h0, h1, h2, h3, h4, h5, h6⟩ := fails_every_row hrow
  refine ⟨_, rfl, htop, h0, h1, h2, h3, h4, h5, h6, ?_⟩
  rw [exec_of_headerRow rfl, hout]
  rfl

end Sys2Proof.Proofs
end

section
/-! SUPPORT. The framer, byte by byte: the partial frame that steps 1 and 2 of PUSH leave, and the three ways in which the
byte appended to it ends the PUSH (R86 to R91). -/

namespace Sys2Proof.Proofs

open Sys2Proof Sys2Proof.Machine Sys2Proof.Laws

/-- PUSH of `b` in state `s` is enabled, and steps 1 and 2 leave the partial frame of `r`, with room for the byte. -/
structure PushesOnto (b : Byte) (s r : State) : Prop where
  idle : s.pend = false
  restart : pushRestart b s = r
  canonical : Memory.wf r.buf = true
  room : r.idx < r.params.bufCap

/-- Step 1 (R86). -/
theorem pushesOnto_of_high {b : Byte} {s : State} (hidle : s.pend = false) (hhigh : b.getLsbD 7 = true) :
    PushesOnto b s (clear { s with evRsy := s.evRsy || s.idx != 0 }) where
  idle := hidle
  restart := if_pos hhigh
  canonical := wf_nil
  room := lt_of_lt_of_le (by decide : 0 < 9) (bufCap_bounds s.params).1

/-- Step 2 (R87). -/
theorem pushesOnto_of_full {b : Byte} {s : State} (hidle : s.pend = false) (hlow : b.getLsbD 7 = false)
    (hfull : s.idx = s.params.bufCap) : PushesOnto b s (clear { s with evOvf := true }) where
  idle := hidle
  restart := by rw [pushRestart, if_neg (ne_true_of_eq_false hlow), if_pos hfull]
  canonical := wf_nil
  room := lt_of_lt_of_le (by decide : 0 < 9) (bufCap_bounds s.params).1

/-- A low byte that finds room starts nothing again. -/
theorem pushesOnto_of_room {b : Byte} {s : State} (hwf : Memory.wf s.buf = true) (hidle : s.pend = false)
    (hlow : b.getLsbD 7 = false) (hroom : s.idx < s.params.bufCap) : PushesOnto b s s where
  idle := hidle
  restart := by rw [pushRestart, if_neg (ne_true_of_eq_false hlow), if_neg hroom.ne]
  canonical := hwf
  room := hroom

/-- Byte 0 of the frame that `b` makes of the partial frame of `r`. -/
def frameHead (b : Byte) (r : State) : Byte := if r.idx = 0 then b else byteAt r 0

theorem frameHead_of_empty (b : Byte) {r : State} (h : r.idx = 0) : frameHead b r = b := if_pos h

theorem frameHead_of_nonempty (b : Byte) {r : State} (h : r.idx ≠ 0) : frameHead b r = byteAt r 0 := if_neg h

/-- Byte 0 is low behind a low byte exactly where the line was empty or began low. -/
theorem frameHead_low_iff {b : Byte} (hlow : b.getLsbD 7 = false) (s : State) :
    (frameHead b s).getLsbD 7 = false ↔ s.idx = 0 ∨ (byteAt s 0).getLsbD 7 = false := by
  by_cases hidx : s.idx = 0
  · simp only [frameHead_of_empty b hidx, hlow, hidx, true_or]
  · simp only [frameHead_of_nonempty b hidx, hidx, false_or]

/-- A write over a write leaves the last one, and the other bytes as they were before both. -/
theorem read_write_write {m : Memory} (h : Memory.wf m = true) (a : Nat) (v w : Byte) (i : Nat) :
    Memory.read (Memory.write (Memory.write m a v) a w) i = if i = a then w else Memory.read m i := by
  rw [read_write (wf_write h a v), read_write h]
  split <;> rfl

section
variable {b : Byte} {s r : State} (h : PushesOnto b s r)
include h

theorem PushesOnto.read_appended (i : Nat) :
    Memory.read (appended b r).buf i = if i = r.idx then b else byteAt r i :=
  read_write h.canonical r.idx b i

theorem PushesOnto.binaryStart_appended : binaryStart (appended b r) = (frameHead b r).getLsbD 7 := by
  rw [binaryStart, h.read_appended, frameHead]
  simp only [eq_comm]

/-- The PUSH ends as steps 4 and 5 end on the appended byte. -/
theorem PushesOnto.exec_push {t : State} (hend : pushComplete b (appended b r) = some t) :
    exec (.push b) s = .next (handshake true t) := by
  have hframer : framerPush b s = some t := by
    rw [framerPush, h.restart, pushAppend_of_lt b h.room, Option.bind_some, hend]
  change execPush b s = _
  simp [execPush, h.idle, hframer]

/-- Step 4: the ninth byte behind a header delivers a binary frame (R89). -/
theorem PushesOnto.delivers_binary (hnine : r.idx = 8) (hhead : (frameHead b r).getLsbD 7 = true) :
    ∃ m : Memory, Memory.wf m = true ∧ (∀ i, Memory.read m i = if i = r.idx then b else byteAt r i) ∧
      exec (.push b) s = .next { r with
        buf := m, idx := 0, pend := true, fkind := false, flen := 9, out := { r.out with accepted := true } } := by
  have hend : pushComplete b (appended b r) = some (deliver false 9 (appended b r)) :=
    if_pos ⟨congrArg (· + 1) hnine, h.binaryStart_appended.trans hhead⟩
  exact ⟨_, wf_write h.canonical r.idx b, h.read_appended, h.exec_push hend⟩

/-- Step 5: a terminator behind a low byte 0 is overwritten with NUL and delivers the line (R90). -/
theorem PushesOnto.delivers_line (hterm : b = 0x0D) (hhead : (frameHead b r).getLsbD 7 = false) :
    ∃ m : Memory, Memory.wf m = true ∧ (∀ i, Memory.read m i = if i = r.idx then 0 else byteAt r i) ∧
      exec (.push b) s = .next { r with
        buf := m, idx := 0, pend := true, fkind := true, flen := r.idx + 1, out := { r.out with accepted := true } } := by
  have hline : binaryStart (appended b r) = false := h.binaryStart_appended.trans hhead
  have hend : pushComplete b (appended b r) = some (deliver true (r.idx + 1)
      { appended b r with buf := Memory.write (appended b r).buf r.idx 0 }) := by
    rw [pushComplete, if_neg (by simp [hline]), if_pos ⟨hterm, hline⟩, Nat.add_sub_cancel,
      memWrite_of_lt (s := appended b r) nul h.room]
    rfl
  exact ⟨_, wf_write (wf_write h.canonical _ _) _ _, read_write_write h.canonical r.idx b 0, h.exec_push hend⟩

/-- Otherwise the frame stays partial, one byte longer (R91). -/
theorem PushesOnto.accumulates (hbin : ¬ (r.idx = 8 ∧ (frameHead b r).getLsbD 7 = true))
    (hline : ¬ (b = 0x0D ∧ (frameHead b r).getLsbD 7 = false)) :
    ∃ m : Memory, Memory.wf m = true ∧ (∀ i, Memory.read m i = if i = r.idx then b else byteAt r i) ∧
      exec (.push b) s = .next { r with buf := m, idx := r.idx + 1, out := { r.out with accepted := true } } := by
  rw [← h.binaryStart_appended] at hbin hline
  have hend : pushComplete b (appended b r) = some (appended b r) := by
    rw [pushComplete, if_neg fun hnine => hbin ⟨Nat.succ.inj hnine.1, hnine.2⟩]
    exact if_neg hline
  exact ⟨_, wf_write h.canonical r.idx b, h.read_appended, h.exec_push hend⟩

end

/-- Settles O15: on the cleared buffer the header is no ninth byte, and it starts no line. -/
theorem highByteStartsFrame : Obligations.HighByteStartsFrame := by
  intro s b hidle hhigh
  have hrsy : (s.evRsy || s.idx != 0) = if s.idx = 0 then s.evRsy else true := by
    by_cases hidx : s.idx = 0 <;> simp [hidx]
  obtain ⟨m, hwf, hread, hexec⟩ := (pushesOnto_of_high hidle hhigh).accumulates
    (fun hnine => by simp at hnine) (fun hline => by cases hhigh.symm.trans hline.2)
  rw [hrsy] at hexec
  exact ⟨m, hwf, hread, hexec⟩

/-- Settles O16: on the cleared buffer a terminator is an empty line, and any other low byte starts one. -/
theorem overflowStartsAgain : Obligations.OverflowStartsAgain := by
  intro s b hidle hlow hfull
  have h := pushesOnto_of_full hidle hlow hfull
  split
  case isTrue hterm =>
    obtain ⟨m, hwf, hread, hexec⟩ := h.delivers_line hterm hlow
    exact ⟨m, hwf, fun i => (hread i).trans (ite_self 0), hexec⟩
  case isFalse hterm =>
    exact h.accumulates (fun hnine => by simp at hnine) (fun hline => hterm hline.1)

/-- Settles O17: every BUF_CAP has room for the ninth byte, and byte 0 stays the header. -/
theorem ninthByteDeliversBinaryFrame : Obligations.NinthByteDeliversBinaryFrame := by
  intro s b hwf hidle hidx hhead hlow
  have hroom : s.idx < s.params.bufCap := by
    have := bufCap_bounds s.params
    omega
  have hbyte0 : frameHead b s = byteAt s 0 := frameHead_of_nonempty b (by omega)
  obtain ⟨m, hwfm, hread, hexec⟩ :=
    (pushesOnto_of_room hwf hidle hlow hroom).delivers_binary hidx (hbyte0 ▸ hhead)
  exact ⟨m, hwfm, hidx ▸ hread, hexec⟩

/-- Settles O18: the terminator is low, so byte 0 is low in an empty line too. -/
theorem terminatorDeliversLine : Obligations.TerminatorDeliversLine := by
  intro s hwf hidle hroom hhead
  have hlow : (0x0D : Byte).getLsbD 7 = false := by decide
  exact (pushesOnto_of_room hwf hidle hlow hroom).delivers_line rfl ((frameHead_low_iff hlow s).mpr hhead)

/-- Settles O19: neither completion, as the appended byte and byte 0 show. -/
theorem otherBytesAccumulate : Obligations.OtherBytesAccumulate := by
  intro s b hwf hidle hroom hlow hbin hline
  refine (pushesOnto_of_room hwf hidle hlow hroom).accumulates (fun hnine => hbin ?_)
    (fun hterm => hline (hterm.imp_right (frameHead_low_iff hlow s).mp))
  rwa [frameHead_of_nonempty b (by omega : s.idx ≠ 0)] at hnine

/-- Only a high byte raises EV_RSY (R86). -/
theorem framerPush_evRsy_of_low {b : Byte} {s t : State} (hlow : b.getLsbD 7 = false) (h : framerPush b s = some t) :
    t.evRsy = s.evRsy := by
  have hrestart : (pushRestart b s).evRsy = s.evRsy := by
    rcases pushRestart_cases b s with ⟨hhigh, -⟩ | ⟨-, -, h⟩ | ⟨-, -, h⟩
    · cases hhigh.symm.trans hlow
    · rw [h]; rfl
    · rw [h]
  obtain ⟨r, rfl, -, a, rfl, ⟨-, -, rfl⟩ | ⟨-, -, rfl⟩ | ⟨-, -, rfl⟩⟩ := framerPush_cases h <;> exact hrestart

/-- A PUSH that raises EV_RSY pushed a high byte, and so delivered nothing and overflowed nothing (R99). -/
theorem exec_push_resync {b : Byte} {s t : State} (h : exec (.push b) s = .next t) (hclear : s.evRsy = false)
    (hset : t.evRsy = true) : t.pend = s.pend ∧ t.evOvf = s.evOvf := by
  obtain ⟨-, rfl⟩ | ⟨hidle, u, hu, rfl⟩ := exec_push_eq_next h
  · exact ⟨rfl, rfl⟩
  · cases hhigh : b.getLsbD 7
    case false =>
      cases hset.symm.trans ((framerPush_evRsy_of_low hhigh hu).trans hclear)
    case true =>
      obtain ⟨m, -, -, hexec⟩ := highByteStartsFrame s b hidle hhigh
      have heq := Host.Outcome.next.inj (h.symm.trans hexec)
      rw [heq]
      exact ⟨rfl, rfl⟩

/-- A PUSH clears neither PEND nor an event flag (R99). -/
theorem exec_push_clears_no_flag {b : Byte} {s t : State} (h : exec (.push b) s = .next t) :
    (s.evOvf = true → t.evOvf = true) ∧ (s.evRsy = true → t.evRsy = true) ∧ (s.pend = true → t.pend = true) := by
  obtain ⟨-, rfl⟩ | ⟨hidle, u, hu, rfl⟩ := exec_push_eq_next h
  · exact ⟨id, id, id⟩
  · obtain ⟨hovf, hrsy⟩ := framerPush_keeps_events hu
    exact ⟨hovf, hrsy, fun hpend => by simp [hidle] at hpend⟩

theorem exec_push_keeps_ie_params {b : Byte} {s t : State} (h : exec (.push b) s = .next t) :
    t.ie = s.ie ∧ t.params = s.params := by
  obtain ⟨-, rfl⟩ | ⟨-, u, hu, rfl⟩ := exec_push_eq_next h
  · exact ⟨rfl, rfl⟩
  · exact ⟨(handshake_ie true u).trans (framerPush_ie hu), (handshake_params true u).trans (framerPush_params hu)⟩

/-- A line of 32 NUL bytes, which fills the buffer of the reference parameters and completes no line (R90). -/
def nulLine : State := { State.reset with idx := 32 }

theorem inv_nulLine : Inv nulLine where
  canonical := wf_nil
  inRange := rfl
  idxLe := le_refl 32
  pendIdx h := nomatch h
  idleKind _ := ⟨rfl, rfl, fun _ _ => rfl⟩
  binaryFrame h := nomatch h
  asciiFrame h := nomatch h
  binaryPartial _ _ h := nomatch h
  asciiPartial _ _ _ _ _ := (by decide : (0 : Byte).getLsbD 7 = false ∧ (0 : Byte) ≠ 0x0D)
  frameTail h := nomatch h

/-- Settles O20: the frame of a PUSH, what a resync leaves alone, and a terminator that finds the buffer full. -/
theorem pushSetsAndNeverClears : Obligations.PushSetsAndNeverClears := by
  constructor
  · intro s t b h
    obtain ⟨hie, hparams⟩ := exec_push_keeps_ie_params h
    obtain ⟨hovf, hrsy, hpend⟩ := exec_push_clears_no_flag h
    refine ⟨hie, hparams, hovf, hrsy, hpend, ?_, ?_⟩
    · rintro ⟨hclear, hset, hidle, hdelivered⟩
      cases hdelivered.symm.trans ((exec_push_resync h hclear hset).1.trans hidle)
    · rintro ⟨hclear, hset, hnone, hover⟩
      cases hover.symm.trans ((exec_push_resync h hclear hset).2.trans hnone)
  · obtain ⟨m, -, -, hexec⟩ := overflowStartsAgain nulLine 0x0D rfl (by decide) rfl
    exact ⟨nulLine, _, 0x0D, inv_nulLine, hexec, rfl, rfl, rfl, rfl⟩

end Sys2Proof.Proofs
end

section
/-! SUPPORT. The header rows as instructions: what they put out with and without a pending binary frame, and how the
observation of the classifier runs them (R101, R103 to R114). -/

namespace Sys2Proof.Proofs

open Sys2Proof Sys2Proof.Machine Sys2Proof.Laws

/-- The header of a row's instruction passes the row's test, whatever its free bits are (R102, R111). -/
theorem passes_row_test {i : Instr} {row kind : BitVec 3} {h : Byte} (hi : headerRow i = some (row, kind, h))
    (hrow : row ≠ 7) : h &&& (clsRow row.toNat).mask = (clsRow row.toNat).expected := by
  cases i <;> cases hi
  case pktUnknown => exact absurd rfl hrow
  all_goals clear hrow; decide +revert

/-- With a binary frame pending a header row's instruction puts out its kind, its row and what its header says
(R110 to R114). -/
theorem exec_headerRow_of_pending {s : State} (hpend : s.pend = true) (hfkind : s.fkind = false)
    {i : Instr} {row kind : BitVec 3} {h : Byte} (hi : headerRow i = some (row, kind, h)) :
    exec i s = .next { s with cls :=
      { kind := kind, row := row, ch := h.getLsbD 0, prox := kindHasProx kind && h.getLsbD s.params.proxBit,
        sec := decide (h &&& s.params.secMask ≠ 0), hdr := h } } := by
  rw [exec_of_headerRow hi, clsOutputs, if_pos ((validBin_iff s).mpr ⟨hpend, hfkind⟩), secOf_eq_decide]
  rfl

/-- Without a pending binary frame the outputs are those of NONE, whatever row and header are asked for (R101). -/
theorem clsOutputs_inactive {s : State} (h : ¬ (s.pend = true ∧ s.fkind = false)) (row kind : BitVec 3) (b : Byte) :
    clsOutputs s row kind b = ClsOut.inactive :=
  if_neg (mt (validBin_iff s).mp h)

/-- The observation's step latches the classifier's outputs and is done (R101). -/
theorem step_classify {s : State} {rest : List Input} (hin : s.inputs = .classify :: rest) :
    step s = .next (popInput (latchCls (classifier s) s)) := by
  unfold step
  simp only [hin, classifierStep_eq]

/-- Settles O44: a row's header passes the row's test, and the row's kind says whether PROX is the header's bit or 0. -/
theorem headerRowOutputs : Obligations.HeaderRowOutputs := by
  intro s hpend hfkind
  have runs {i : Instr} {row kind : BitVec 3} {h : Byte} (hi : headerRow i = some (row, kind, h)) :=
    exec_headerRow_of_pending hpend hfkind hi
  refine ⟨fun x1 ch => ?_, fun ch => ?_, fun x6 x21 ch => ?_, fun x6 ch => ?_, fun x6 ch => ?_, fun x6 ch => ?_,
    fun x6 ch => ?_⟩
  · exact ⟨_, rfl, passes_row_test (i := .pktRow0DeviceId x1 ch) rfl (by decide), runs rfl⟩
  · exact ⟨_, rfl, passes_row_test (i := .pktRow1OutOfProx ch) rfl (by decide), runs rfl⟩
  · exact ⟨_, rfl, passes_row_test (i := .pktRow2Stylus x6 x21 ch) rfl (by decide), runs rfl⟩
  · exact ⟨_, rfl, passes_row_test (i := .pktRow3Stylus x6 ch) rfl (by decide), runs rfl⟩
  · exact ⟨_, rfl, passes_row_test (i := .pktRow4Cursor1 x6 ch) rfl (by decide), runs rfl⟩
  · exact ⟨_, rfl, passes_row_test (i := .pktRow5Cursor1 x6 ch) rfl (by decide), runs rfl⟩
  · exact ⟨_, rfl, passes_row_test (i := .pktRow6Cursor2 x6 ch) rfl (by decide), runs rfl⟩

/-- Settles O8: the decoded header row latches the row and kind that the search finds for byte 0, and so does the
observation. -/
theorem classifierStepRunsHeader : Obligations.ClassifierStepRunsHeader := by
  intro s rest i hin _ _ hdec
  rw [step_classify hin, exec_of_headerRow (headerRow_of_decode hdec)]
  rfl

/-- Settles O46: a header row and an observation alike latch outputs of the classifier, which are those of NONE. -/
theorem classifierInactiveWithoutBinaryFrame : Obligations.ClassifierInactiveWithoutBinaryFrame := by
  intro s hnone
  constructor
  · intro i h hdec
    rw [exec_of_headerRow (headerRow_of_decode hdec), clsOutputs_inactive hnone]
    rfl
  · intro rest hin
    have hlatched : (latchCls ClsOut.inactive s).inputs = .classify :: rest := hin
    rw [step_classify hin, classifier, clsOutputs_inactive hnone, popInput_of_inputs hlatched]
    rfl

/-- Settles O48: the table's tests and the search of it, at each of the 256 bytes. -/
theorem rowsAreDisjoint : Obligations.RowsAreDisjoint := by
  refine ⟨?disjoint, ?matching, ?unknown⟩
  case disjoint => decide
  all_goals rfl

end Sys2Proof.Proofs
end

section
/-! SUPPORT. Positions put together again, and the signed fields as two's complement of their bits (R120, R122 to
R128). -/

namespace Sys2Proof.Proofs

open Sys2Proof Sys2Proof.Machine Sys2Proof.Laws

/-- Three adjacent slices, each placed in a word where it came from, make up the whole vector. -/
theorem adjacent_slices_joined {n m l : Nat} (v : BitVec (n + m + l)) :
    (v.extractLsb' (m + l) n).setWidth 32 <<< (m + l) ||| (v.extractLsb' l m).setWidth 32 <<< l
      ||| (v.extractLsb' 0 l).setWidth 32 = v.setWidth 32 := by
  rw [← BitVec.setWidth_append_append_eq_shiftLeft_setWidth_or,
    BitVec.extractLsb'_append_extractLsb'_eq_extractLsb' (Nat.add_comm m l), BitVec.extractLsb'_append_extractLsb']

/-- A byte that packs two fields holds the upper one from its place up. -/
theorem slice32_packed_high {s : State} {i n m : Nat} {hi : BitVec n} {lo : BitVec m} (hfit : m + n ≤ 8)
    (hbyte : byteAt s i = hi.setWidth 8 <<< m ||| lo.setWidth 8) : slice32 s i m n = hi.setWidth 32 := by
  rw [slice32, hbyte, ← BitVec.setWidth_append_eq_shiftLeft_setWidth_or, BitVec.extractLsb'_setWidth_of_le hfit,
    BitVec.extractLsb'_append_eq_left]

theorem slice32_packed_low {s : State} {i n m : Nat} {hi : BitVec n} {lo : BitVec m} (hfit : m ≤ 8)
    (hbyte : byteAt s i = hi.setWidth 8 <<< m ||| lo.setWidth 8) : slice32 s i 0 m = lo.setWidth 32 := by
  rw [slice32, hbyte, ← BitVec.setWidth_append_eq_shiftLeft_setWidth_or,
    BitVec.extractLsb'_setWidth_of_le (by omega), BitVec.extractLsb'_append_eq_right]

/-- A byte that holds one field has it in its lowest bits. -/
theorem slice32_single {s : State} {i n : Nat} {v : BitVec n} (hfit : n ≤ 8) (hbyte : byteAt s i = v.setWidth 8) :
    slice32 s i 0 n = v.setWidth 32 := by
  rw [slice32, hbyte, BitVec.extractLsb'_setWidth_of_le (by omega), BitVec.extractLsb'_eq_self]

/-- Settles O35: the encoding packs the slices that the position registers place again where they were. -/
theorem positionRoundTrip : Obligations.PositionRoundTrip := by
  intro s x y q hpend hfkind h1 h2 h3 h4 h5
  have hx : slice32 s 1 0 7 <<< 9 ||| slice32 s 2 0 7 <<< 2 ||| slice32 s 3 5 2 = x.setWidth 32 := by
    rw [slice32_single (by decide) h1, slice32_single (by decide) h2, slice32_packed_high (by decide) h3]
    exact adjacent_slices_joined (n := 7) (m := 7) (l := 2) x
  have hy : slice32 s 3 0 5 <<< 11 ||| slice32 s 4 0 7 <<< 4 ||| slice32 s 5 3 4 = y.setWidth 32 := by
    rw [slice32_packed_low (by decide) h3, slice32_single (by decide) h4, slice32_packed_high (by decide) h5]
    exact adjacent_slices_joined (n := 5) (m := 7) (l := 4) y
  obtain ⟨hposX, hposY⟩ := readPosition s hpend hfkind
  exact ⟨hx ▸ hposX, hy ▸ hposY⟩

/-- `tilt7` is the two's complement value of the seven data bits (R122). -/
theorem tilt7_eq_toInt (s : State) (i : Nat) : tilt7 (d s i) = ((byteAt s i).extractLsb' 0 7).toInt := by
  have hbits : ((byteAt s i).extractLsb' 0 7).toNat = d s i % 2 ^ 7 := BitVec.extractLsb'_toNat ..
  have hlow : d s i &&& 0x3F = d s i % 2 ^ 6 := Nat.and_two_pow_sub_one_eq_mod _ 6
  have hbit : (byteAt s i).getLsbD 6 = decide (d s i / 2 ^ 6 % 2 = 1) := Nat.testBit_eq_decide_div_mod_eq
  have hsign : d s i &&& 0x40 ≠ 0 ↔ d s i / 2 ^ 6 % 2 = 1 :=
    (masked_bit_ne_zero_iff s i 6).trans (hbit ▸ decide_eq_true_iff)
  simp only [tilt7, hlow, hsign, BitVec.toInt_eq_toNat_cond, hbits]
  split <;> split <;> omega

/-- The bias of 64 turns the two's complement of seven bits into its bits with the sign inverted (R124). -/
theorem toNat_toInt_add_bias (t : BitVec 7) : (t.toInt + 64).toNat = (t ^^^ 0x40#7).toNat := by
  decide +revert

theorem zext32_tiltBiased (s : State) (i : Nat) : zext32 (tiltBiased (d s i)) = slice32 s i 0 7 ^^^ 0x40#32 := by
  rw [tiltBiased, tilt7_eq_toInt, toNat_toInt_add_bias, zext32, BitVec.ofNat_toNat, BitVec.setWidth_xor]
  rfl

/-- Settles O37: sign extension extends the two's complement value that `tilt7` is. -/
theorem readTilt : Obligations.ReadTilt := by
  intro s hpend hfkind
  have signed (i : Nat) : readReply (gated s (sext32 (tilt7 (d s i)))) s =
      .next (answered s (((byteAt s i).extractLsb' 0 7).signExtend 32)) := by
    rw [readReply_gated hpend hfkind, tilt7_eq_toInt]
    rfl
  have biased (i : Nat) : readReply (gated s (zext32 (tiltBiased (d s i)))) s =
      .next (answered s (slice32 s i 0 7 ^^^ 0x40#32)) := by
    rw [readReply_gated hpend hfkind, zext32_tiltBiased]
  exact ⟨signed 7, signed 8, biased 7, biased 8⟩

/-- REL_WHEEL depends on the two lowest bits of its byte alone (R126). -/
theorem relWheel_eq_lowBits (s : State) (i : Nat) :
    relWheel (d s i) = relWheel ((byteAt s i).extractLsb' 0 2).toNat := by
  have hbits : ((byteAt s i).extractLsb' 0 2).toNat = d s i &&& 3 :=
    (BitVec.extractLsb'_toNat ..).trans (Nat.and_two_pow_sub_one_eq_mod _ 2).symm
  simp only [relWheel, hbits, Nat.and_assoc, Nat.reduceAnd]

/-- The relative wheel at each value of its two bits (R126). -/
theorem sext32_relWheel (w : BitVec 2) :
    sext32 (relWheel w.toNat) = if w = 0b01#2 then 0xFFFFFFFF#32 else if w = 0b10#2 then 1#32 else 0#32 := by
  decide +revert

/-- The eleven bits of the raw rotation (R127). -/
theorem zext32_rotRaw (s : State) : zext32 (rotRaw (d s 6) (d s 7)) = slice32 s 6 0 4 <<< 7 ||| slice32 s 7 0 7 := by
  rw [rotRaw, zext32_or, zext32_shiftLeft, zext32_masked s 6 0x0f 4 rfl, zext32_dataBits]

theorem rotRaw_lt (d6 d7 : Nat) : rotRaw d6 d7 < 2 ^ 11 := by
  have h6 : d6 &&& 0x0f ≤ 0x0f := Nat.and_le_right
  have h7 : d7 &&& 0x7f ≤ 0x7f := Nat.and_le_right
  refine Nat.or_lt_two_pow ?_ (by omega)
  rw [Nat.shiftLeft_eq]
  omega

/-- The angle in register words, where no raw value wraps (R128). -/
theorem sext32_rotAngle {raw : Nat} (h : raw < 2 ^ 11) :
    sext32 (rotAngle raw) = if zext32 raw < 900#32 then -zext32 raw else 1799#32 - zext32 raw := by
  have hword : zext32 raw < 900#32 ↔ raw < 900 := by
    rw [BitVec.lt_def, zext32, BitVec.toNat_ofNat, Nat.mod_eq_of_lt (by omega)]
    rfl
  simp only [rotAngle, hword]
  split
  · rw [sext32, BitVec.ofInt_neg, BitVec.ofInt_natCast, zext32]
  · rw [sext32, Int.sub_eq_add_neg, BitVec.ofInt_add, BitVec.ofInt_neg, BitVec.ofInt_natCast, zext32,
      ← BitVec.sub_eq_add_neg]
    rfl

/-- Settles O38: the wheel at its two bits, the raw rotation's slices, and the angle of that raw value. -/
theorem readWheelAndRotation : Obligations.ReadWheelAndRotation := by
  intro s hpend hfkind
  refine ⟨?_, ?_, ?_⟩
  · change readReply (gated s (sext32 (relWheel (d s 8)))) s = _
    rw [readReply_gated hpend hfkind, relWheel_eq_lowBits, sext32_relWheel]
  · change readReply (gated s (zext32 (rotRaw (d s 6) (d s 7)))) s = _
    rw [readReply_gated hpend hfkind, zext32_rotRaw]
  · change readReply (gated s (sext32 (rotAngle (rotRaw (d s 6) (d s 7))))) s = _
    rw [readReply_gated hpend hfkind, sext32_rotAngle (rotRaw_lt ..), zext32_rotRaw]

end Sys2Proof.Proofs
end

section
/-! SUPPORT. The WRITEs and BADACC: the three WRITEs with an effect, the WRITEs without one, and which bus access is
neither a READ nor a WRITE (R54, R141 to R143, R163, R164). In the namespace of the register window, because a statement
bears the name of a function of the model. -/

namespace Sys2Proof.Proofs.Registers

open Sys2Proof Sys2Proof.Machine Sys2Proof.Laws

/-- Settles O21: SRST, ACK of a pending frame, or nothing, as the two bits and PEND decide. -/
theorem writeCtrl : Obligations.WriteCtrl := by
  intro v s
  refine ⟨respond 0 false (Machine.writeCtrl v s), rfl, ?_⟩
  rcases writeCtrl_cases v s with ⟨hsrst, h⟩ | ⟨hsrst, hack, hpend, h⟩ | ⟨hsrst, hnone, h⟩
  · rw [h, if_pos hsrst]
    exact ⟨fun _ => rfl, rfl⟩
  · rw [h, if_neg (ne_true_of_eq_false hsrst), if_pos ⟨hack, hpend⟩]
    exact ⟨fun _ => rfl, rfl⟩
  · have hnoack : ¬ (v.getLsbD 0 = true ∧ s.pend = true) := fun ⟨hack, hpend⟩ =>
      hnone.elim (ne_false_of_eq_true hack) (ne_false_of_eq_true hpend)
    rw [h, if_neg (ne_true_of_eq_false hsrst), if_neg hnoack]
    rfl

/-- A flag that is cleared by a 1 (R142). -/
theorem and_not_eq_if (flag one : Bool) : (flag && !one) = if one = true then false else flag := by
  cases one <;> simp

/-- Settles O22: each flag falls by its own bit, and EVENTS shows the two flags that are left. -/
theorem writeEventsClearsOnes : Obligations.WriteEventsClearsOnes := by
  intro v s
  refine ⟨respond 0 false (writeEvents v s), rfl, ?_, _, rfl, readEvents_fields _⟩
  rw [← and_not_eq_if, ← and_not_eq_if]
  rfl

/-- The three enables as a register word (R37, R143). -/
theorem lowBits_word (v : Word) : (v.extractLsb' 0 3).setWidth 32 = v &&& 0x00000007 := by
  refine BitVec.eq_of_toNat_eq ?_
  have hmask : v.toNat &&& 7 = v.toNat % 2 ^ 3 := Nat.and_two_pow_sub_one_eq_mod v.toNat 3
  have hlt : v.toNat % 2 ^ 3 < 2 ^ 32 := by omega
  rw [BitVec.toNat_setWidth, BitVec.extractLsb'_toNat, Nat.shiftRight_zero, Nat.mod_eq_of_lt hlt]
  exact hmask.symm

/-- Settles O23: IE is the low bits of the payload, and IRQ_EN reads them as a word. -/
theorem writeIrqEnReadsBack : Obligations.WriteIrqEnReadsBack := by
  intro v s
  refine ⟨respond 0 false (writeIrqEn v s), rfl, rfl, ?_⟩
  rw [← lowBits_word v]
  rfl

/-- Each ignored WRITE stands at a word offset other than 2, 3 and 4 (R43, R163). -/
theorem offset_of_ignoredWrite {v : Word} {i : Instr} (hi : i ∈ ignoredWrites v) :
    ∃ w, w ≠ 2 ∧ w ≠ 3 ∧ w ≠ 4 ∧ i = decodeWrite v w := by
  obtain ⟨k, hk⟩ := List.mem_iff_getElem?.mp hi
  have hlength : k < 125 := (List.getElem?_eq_some_iff.mp hk).1
  obtain ⟨w, hw, h2, h3, h4, hplace⟩ : ∃ w, w < 128 ∧ w ≠ 2 ∧ w ≠ 3 ∧ w ≠ 4 ∧ (if w < 2 then w else w - 3) = k := by
    by_cases hlow : k < 2
    · exact ⟨k, by omega, by omega, by omega, by omega, if_pos hlow⟩
    · exact ⟨k + 3, by omega, by omega, by omega, by omega, if_neg (by omega)⟩
  have hat := ignoredWrites_at v w hw h2 h3 h4
  rw [hplace, hk] at hat
  exact ⟨w, h2, h3, h4, Option.some.inj hat⟩

/-- A WRITE at any other offset than 2, 3 and 4 is a reply (R163). -/
theorem exec_decodeWrite_ignored (v : Word) (s : State) {w : Nat} (h2 : w ≠ 2) (h3 : w ≠ 3) (h4 : w ≠ 4) :
    exec (decodeWrite v w) s = .next (answered s 0) := by
  obtain ⟨t, hexec, ⟨h, -⟩ | ⟨h, -⟩ | ⟨h, -⟩ | ⟨-, -, -, rfl⟩⟩ := decodeWrite_cases v w s
  · exact absurd h h2
  · exact absurd h h3
  · exact absurd h h4
  · exact hexec

/-- Settles O24: each ignored WRITE has an offset, and each offset but the three holds one of them. -/
theorem otherWritesIgnored : Obligations.OtherWritesIgnored := by
  refine fun v => ⟨fun s i hi => ?_, fun w h2 h3 h4 => ?_⟩
  · obtain ⟨w, h2, h3, h4, rfl⟩ := offset_of_ignoredWrite hi
    exact exec_decodeWrite_ignored v s h2 h3 h4
  · simpa only [h2, h3, h4, if_false] using (windowMap w).1 v

/-- An aligned 32-bit access is a READ or a WRITE: its descriptor is not that of BADACC (R52, R70). -/
theorem busCode_ne_badacc {b : BusReq} (h : b.size = 2 ∧ b.addr.extractLsb' 0 2 = 0) :
    busCode b ≠ .xact 0xC000 none := by
  rw [busCode, if_pos h]
  cases b.we
  case true => simp
  case false =>
    intro hcode
    obtain ⟨hdescr, -⟩ := Code.xact.inj hcode
    have hclass := (descr_fields 0b01 (b.addr.extractLsb' 2 7) _ rfl).1
    exact absurd (hclass.symm.trans (congrArg (BitVec.extractLsb' 14 2) hdescr)) (by decide)

/-- Settles O26: any other access is BADACC by definition, and what decodes to BADACC has its descriptor. -/
theorem badAccessResponse : Obligations.BadAccessResponse := by
  refine ⟨fun _ => rfl, rfl, fun b => ⟨fun hbad => ?_, fun hdec => ?_⟩⟩
  · rw [decode_busCode]
    exact congrArg Decoded.instr (busInstr_of_narrow_or_misaligned hbad)
  · have hcode : encode .badacc = busCode b := (encodeOfDecode (busCode b) .badacc hdec).1
    by_contra hwide
    rw [not_or, not_not, not_not] at hwide
    exact busCode_ne_badacc hwide hcode.symm

end Sys2Proof.Proofs.Registers
end

section
/-! SUPPORT. A clock cycle with a write and a byte: the byte finds what the write has left, and is accepted only if no
frame was pending at the start of the cycle (R167, R168, R186, R198). -/

namespace Sys2Proof.Proofs

open Sys2Proof Sys2Proof.Machine Sys2Proof.Laws

/-- Settles O10: neither the empty list of inputs nor the empty cycle has a phase that does anything. -/
theorem idleCycleChangesNothing : Obligations.IdleCycleChangesNothing := by
  constructor
  · intro s hin
    have hstep : step s = idleStep s := by
      unfold step
      rw [hin]
    exact hstep
  · intro s rest hin
    calc step s = .next (popInput (beginCycle s)) := step_cycle hin rfl
      _ = _ := by
          rw [popInput_of_inputs (s := beginCycle s) hin]
          rfl

section
variable {s u : State} {b : Byte} {bus : Option BusReq} {rest : List Input}
  (hin : s.inputs = .cycle { rst := false, byte := some b, bus := bus } :: rest)
  (hbus : busPhase bus (beginCycle s) = .next u)
include hin hbus

theorem inputs_after_busPhase : u.inputs = .cycle { rst := false, byte := some b, bus := bus } :: rest := by
  obtain ⟨u', hbus', hinputs⟩ := busPhase_answers bus (beginCycle s)
  obtain rfl : u = u' := Host.Outcome.next.inj (hbus.symm.trans hbus')
  exact hinputs.trans hin

/-- With no frame pending at its start, the cycle ends with the PUSH in the state that the bus access has left. -/
theorem step_cycle_of_idle (hidle : s.pend = false) {w : State} (hexec : exec (.push b) u = .next w) :
    step s = .next { w with inputs := rest } := by
  rw [step_cycle hin rfl, hbus, andThen_next, pushPhase_some, inReady, hidle, Bool.not_false, if_pos rfl, hexec,
    mapNext_next, popInput_of_inputs ((exec_inputs hexec).trans (inputs_after_busPhase hin hbus))]

/-- With a frame pending at its start, the cycle ends with the bus access, even if that releases the frame. -/
theorem step_cycle_of_pending (hpend : s.pend = true) : step s = .next { u with inputs := rest } := by
  rw [step_cycle hin rfl, hbus, andThen_next, pushPhase_some, inReady, hpend, Bool.not_true,
    if_neg Bool.false_ne_true, mapNext_next, popInput_of_inputs (inputs_after_busPhase hin hbus)]

end

/-- An aligned 32-bit write is the WRITE of its word offset (R52, R70). -/
theorem busInstr_write {addr : BitVec 9} (v : Word) (h : addr.extractLsb' 0 2 = 0) :
    busInstr { we := true, addr := addr, size := 2, wdata := v } = decodeWrite v (addr.extractLsb' 2 7).toNat := by
  rw [busInstr, if_pos ⟨rfl, h⟩, if_pos rfl]

theorem busPhase_writeCtrl (v : Word) (s : State) :
    busPhase (some { we := true, addr := 0x008, size := 2, wdata := v }) s = .next (respond 0 false (writeCtrl v s)) := by
  rw [busPhase_some, busInstr_write v (by decide)]
  rfl

theorem busPhase_writeEvents (v : Word) (s : State) :
    busPhase (some { we := true, addr := 0x00C, size := 2, wdata := v }) s = .next (respond 0 false (writeEvents v s)) := by
  rw [busPhase_some, busInstr_write v (by decide)]
  rfl

/-- A low byte that finds the buffer full raises EV_OVF, a terminator too (R87). -/
theorem exec_push_raises_evOvf {b : Byte} {s : State} (hidle : s.pend = false) (hlow : b.getLsbD 7 = false)
    (hfull : s.idx = s.params.bufCap) :
    ∃ t, exec (.push b) s = .next t ∧ t.evOvf = true ∧ t.out.accepted = true := by
  obtain ⟨m, -, hend⟩ := overflowStartsAgain s b hidle hlow hfull
  split_ifs at hend
  · exact ⟨_, hend.2, rfl, rfl⟩
  · exact ⟨_, hend.2, rfl, rfl⟩

/-- A high byte that cuts a partial frame raises EV_RSY (R86). -/
theorem exec_push_raises_evRsy {b : Byte} {s : State} (hidle : s.pend = false) (hhigh : b.getLsbD 7 = true)
    (hcut : s.idx ≠ 0) : ∃ t, exec (.push b) s = .next t ∧ t.evRsy = true ∧ t.out.accepted = true := by
  obtain ⟨m, -, -, hexec⟩ := highByteStartsFrame s b hidle hhigh
  exact ⟨_, hexec, if_neg hcut, rfl⟩

/-- Settles O57: the PUSH comes after the clearing write, which leaves PEND and the index alone. -/
theorem eventSetWinsOverClear : Obligations.EventSetWinsOverClear := by
  intro s v b rest hin hidle
  have hbus := busPhase_writeEvents v (beginCycle s)
  refine ⟨fun hlow hfull => ?_, fun hhigh hcut => ?_⟩
  · obtain ⟨w, hexec, hovf, hacc⟩ :=
      exec_push_raises_evOvf (s := respond 0 false (writeEvents v (beginCycle s))) hidle hlow hfull
    exact ⟨_, step_cycle_of_idle hin hbus hidle hexec, hovf, hacc⟩
  · obtain ⟨w, hexec, hrsy, hacc⟩ :=
      exec_push_raises_evRsy (s := respond 0 false (writeEvents v (beginCycle s))) hidle hhigh hcut
    exact ⟨_, step_cycle_of_idle hin hbus hidle hexec, hrsy, hacc⟩

/-- On a cleared buffer any byte but the terminator becomes byte 0, high or low, and raises no event (R86, R91). -/
theorem exec_push_on_cleared {b : Byte} {s : State} (hidle : s.pend = false) (hbuf : s.buf = []) (hidx : s.idx = 0)
    (hterm : b ≠ 0x0D) :
    ∃ m : Memory, (∀ i, Memory.read m i = if i = 0 then b else 0) ∧
      exec (.push b) s = .next { s with buf := m, idx := 1, out := { s.out with accepted := true } } := by
  cases hbit : b.getLsbD 7
  case true =>
    obtain ⟨m, -, hread, hexec⟩ := highByteStartsFrame s b hidle hbit
    rw [if_pos hidx] at hexec
    exact ⟨m, hread, hexec⟩
  case false =>
    have hroom : s.idx < s.params.bufCap := by
      have := bufCap_bounds s.params
      omega
    obtain ⟨m, -, hread, hexec⟩ := otherBytesAccumulate s b (hbuf ▸ wf_nil) hidle hroom hbit
      (fun hnine => by simp [hidx] at hnine) (fun hline => hterm hline.1)
    rw [hidx] at hexec
    simp only [hidx, byteAt, hbuf, read_nil] at hread
    exact ⟨m, hread, hexec⟩

theorem writeCtrl_of_srst {v : Word} (hsrst : v.getLsbD 1 = true) (s : State) : writeCtrl v s = softReset s :=
  if_pos hsrst

/-- Settles O58: the soft reset clears the buffer and the flags before the PUSH, which `in_ready` allows as it was
before the soft reset. -/
theorem byteInSoftResetCycle : Obligations.ByteInSoftResetCycle := by
  intro s v b rest hin hsrst hterm
  have hbus := busPhase_writeCtrl v (beginCycle s)
  rw [writeCtrl_of_srst hsrst] at hbus
  cases hpend : s.pend
  case false =>
    obtain ⟨m, hread, hexec⟩ :=
      exec_push_on_cleared (s := respond 0 false (softReset (beginCycle s))) rfl rfl rfl hterm
    exact ⟨_, step_cycle_of_idle hin hbus hpend hexec, rfl, rfl, rfl, rfl, rfl, fun _ => ⟨rfl, rfl, hread⟩, nofun⟩
  case true =>
    exact ⟨_, step_cycle_of_pending hin hbus hpend, rfl, rfl, rfl, rfl, rfl, nofun, fun _ => ⟨rfl, rfl, fun _ => rfl⟩⟩

/-- ACK alone releases a pending frame (R141). -/
theorem writeCtrl_ack {s : State} (hpend : s.pend = true) : writeCtrl 0x00000001 s = release s := by
  rw [writeCtrl, if_neg (by decide), hpend]
  rfl

/-- A byte offered alone is accepted where no frame is pending (R28, R92). -/
theorem step_accepts_byte {s : State} {b : Byte} {rest : List Input}
    (hin : s.inputs = .cycle { rst := false, byte := some b, bus := none } :: rest) (hidle : s.pend = false)
    (hidx : s.idx ≤ s.params.bufCap) :
    ∃ t, step s = .next t ∧ t.out.accepted = true ∧ t.out.inReady = true ∧ t.inputs = rest := by
  obtain ⟨w, hexec, hout⟩ := pushCompletes.1 (beginCycle s) b hidx
  refine ⟨_, step_cycle_of_idle hin rfl hidle hexec, ?_, ?_, rfl⟩ <;> simp [hout, beginCycle, hidle]

/-- Settles O59: the first cycle ends with the release, and the second starts without a frame. -/
theorem byteInAckCycleWaits : Obligations.ByteInAckCycleWaits := by
  intro s b rest hpend hin
  have hbus := busPhase_writeCtrl 0x00000001 (beginCycle s)
  rw [writeCtrl_ack (s := beginCycle s) hpend] at hbus
  obtain ⟨u, hnext, hacc, hready, hrest⟩ :=
    step_accepts_byte (s := { respond 0 false (release (beginCycle s)) with inputs := _ }) (b := b) (rest := rest)
      rfl rfl (Nat.zero_le _)
  exact ⟨_, u, step_cycle_of_pending hin hbus hpend, rfl, rfl, fun _ => rfl, rfl, congrArg Bool.not hpend, hnext, hacc,
    hready, hrest⟩

end Sys2Proof.Proofs
end
